-- ==== Sys2Proof/Word.lean ====
section
/-! DEFINITION. The word types of the µPD98502 (spec/00_scope.md R12, spec/10_state.md R20). -/
namespace Sys2Proof

/-- A byte of memory (8 bits). -/
abbrev Byte := BitVec 8
/-- A halfword (16 bits). -/
abbrev Half := BitVec 16
/-- A word (32 bits): an instruction, a CP0 word register, a device register. -/
abbrev Word := BitVec 32
/-- A doubleword (64 bits): a general register, the program counter, a virtual address. -/
abbrev Dword := BitVec 64
/-- A physical address (32 bits, spec/20_memory.md R122). -/
abbrev PAddr := BitVec 32
/-- The number of a general register or of a CP0 register. -/
abbrev Reg := BitVec 5

end Sys2Proof
end

