-- ==== Sys2Proof/Syntax.lean ====
section
/-! DEFINITION. The instruction set: one constructor for each row of spec/opcode_table.json (spec/30_encoding.md R191).
Operands are the fields of the instruction word (R181, R182); fields that must be zero are not kept (R190). -/
namespace Sys2Proof

/-- An instruction. -/
inductive Instr where
  -- Loads and stores (spec/40_load_store.md)
  /-- LB (R222). -/
  | lb (rt base : Reg) (offset : Half)
  /-- LBU (R223). -/
  | lbu (rt base : Reg) (offset : Half)
  /-- LH (R224). -/
  | lh (rt base : Reg) (offset : Half)
  /-- LHU (R225). -/
  | lhu (rt base : Reg) (offset : Half)
  /-- LW (R226). -/
  | lw (rt base : Reg) (offset : Half)
  /-- LWL (R227). -/
  | lwl (rt base : Reg) (offset : Half)
  /-- LWR (R228). -/
  | lwr (rt base : Reg) (offset : Half)
  /-- LWU (R229). -/
  | lwu (rt base : Reg) (offset : Half)
  /-- LD (R230). -/
  | ld (rt base : Reg) (offset : Half)
  /-- LDL (R231). -/
  | ldl (rt base : Reg) (offset : Half)
  /-- LDR (R232). -/
  | ldr (rt base : Reg) (offset : Half)
  /-- SB (R233). -/
  | sb (rt base : Reg) (offset : Half)
  /-- SH (R234). -/
  | sh (rt base : Reg) (offset : Half)
  /-- SW (R235). -/
  | sw (rt base : Reg) (offset : Half)
  /-- SWL (R236). -/
  | swl (rt base : Reg) (offset : Half)
  /-- SWR (R237). -/
  | swr (rt base : Reg) (offset : Half)
  /-- SD (R238). -/
  | sd (rt base : Reg) (offset : Half)
  /-- SDL (R239). -/
  | sdl (rt base : Reg) (offset : Half)
  /-- SDR (R240). -/
  | sdr (rt base : Reg) (offset : Half)
  -- Computational instructions (spec/41_alu.md)
  /-- ADDI (R262). -/
  | addi (rt rs : Reg) (imm : Half)
  /-- ADDIU (R263). -/
  | addiu (rt rs : Reg) (imm : Half)
  /-- SLTI (R264). -/
  | slti (rt rs : Reg) (imm : Half)
  /-- SLTIU (R265). -/
  | sltiu (rt rs : Reg) (imm : Half)
  /-- ANDI (R266). -/
  | andi (rt rs : Reg) (imm : Half)
  /-- ORI (R267). -/
  | ori (rt rs : Reg) (imm : Half)
  /-- XORI (R268). -/
  | xori (rt rs : Reg) (imm : Half)
  /-- LUI (R269). -/
  | lui (rt : Reg) (imm : Half)
  /-- DADDI (R270). -/
  | daddi (rt rs : Reg) (imm : Half)
  /-- DADDIU (R271). -/
  | daddiu (rt rs : Reg) (imm : Half)
  /-- ADD (R272). -/
  | add (rd rs rt : Reg)
  /-- ADDU (R273). -/
  | addu (rd rs rt : Reg)
  /-- SUB (R274). -/
  | sub (rd rs rt : Reg)
  /-- SUBU (R275). -/
  | subu (rd rs rt : Reg)
  /-- AND (R276). -/
  | and (rd rs rt : Reg)
  /-- OR (R277). -/
  | or (rd rs rt : Reg)
  /-- XOR (R278). -/
  | xor (rd rs rt : Reg)
  /-- NOR (R279). -/
  | nor (rd rs rt : Reg)
  /-- SLT (R280). -/
  | slt (rd rs rt : Reg)
  /-- SLTU (R281). -/
  | sltu (rd rs rt : Reg)
  /-- DADD (R282). -/
  | dadd (rd rs rt : Reg)
  /-- DADDU (R283). -/
  | daddu (rd rs rt : Reg)
  /-- DSUB (R284). -/
  | dsub (rd rs rt : Reg)
  /-- DSUBU (R285). -/
  | dsubu (rd rs rt : Reg)
  -- Shifts (spec/42_shift.md)
  /-- SLL (R302). -/
  | sll (rd rt : Reg) (sa : BitVec 5)
  /-- SRL (R303). -/
  | srl (rd rt : Reg) (sa : BitVec 5)
  /-- SRA (R304). -/
  | sra (rd rt : Reg) (sa : BitVec 5)
  /-- SLLV (R305). -/
  | sllv (rd rt rs : Reg)
  /-- SRLV (R306). -/
  | srlv (rd rt rs : Reg)
  /-- SRAV (R307). -/
  | srav (rd rt rs : Reg)
  /-- DSLL (R308). -/
  | dsll (rd rt : Reg) (sa : BitVec 5)
  /-- DSRL (R309). -/
  | dsrl (rd rt : Reg) (sa : BitVec 5)
  /-- DSRA (R310). -/
  | dsra (rd rt : Reg) (sa : BitVec 5)
  /-- DSLLV (R311). -/
  | dsllv (rd rt rs : Reg)
  /-- DSRLV (R312). -/
  | dsrlv (rd rt rs : Reg)
  /-- DSRAV (R313). -/
  | dsrav (rd rt rs : Reg)
  /-- DSLL32 (R314). -/
  | dsll32 (rd rt : Reg) (sa : BitVec 5)
  /-- DSRL32 (R315). -/
  | dsrl32 (rd rt : Reg) (sa : BitVec 5)
  /-- DSRA32 (R316). -/
  | dsra32 (rd rt : Reg) (sa : BitVec 5)
  -- Multiply, divide, HI/LO, multiply-accumulate (spec/43_muldiv_macc.md)
  /-- MULT (R332). -/
  | mult (rs rt : Reg)
  /-- MULTU (R333). -/
  | multu (rs rt : Reg)
  /-- DIV (R334). -/
  | div (rs rt : Reg)
  /-- DIVU (R335). -/
  | divu (rs rt : Reg)
  /-- DMULT (R336). -/
  | dmult (rs rt : Reg)
  /-- DMULTU (R337). -/
  | dmultu (rs rt : Reg)
  /-- DDIV (R338). -/
  | ddiv (rs rt : Reg)
  /-- DDIVU (R339). -/
  | ddivu (rs rt : Reg)
  /-- MFHI (R340). -/
  | mfhi (rd : Reg)
  /-- MTHI (R341). -/
  | mthi (rs : Reg)
  /-- MFLO (R342). -/
  | mflo (rd : Reg)
  /-- MTLO (R343). -/
  | mtlo (rs : Reg)
  /-- MACC (R349). -/
  | macc (rd rs rt : Reg)
  /-- MACCU (R349). -/
  | maccu (rd rs rt : Reg)
  /-- MACCHI (R349). -/
  | macchi (rd rs rt : Reg)
  /-- MACCHIU (R349). -/
  | macchiu (rd rs rt : Reg)
  /-- MACCS (R349). -/
  | maccs (rd rs rt : Reg)
  /-- MACCUS (R349). -/
  | maccus (rd rs rt : Reg)
  /-- MACCHIS (R349). -/
  | macchis (rd rs rt : Reg)
  /-- MACCHIUS (R349). -/
  | macchius (rd rs rt : Reg)
  /-- DMACC (R350). -/
  | dmacc (rd rs rt : Reg)
  /-- DMACCU (R350). -/
  | dmaccu (rd rs rt : Reg)
  /-- DMACCHI (R350). -/
  | dmacchi (rd rs rt : Reg)
  /-- DMACCHIU (R350). -/
  | dmacchiu (rd rs rt : Reg)
  /-- DMACCS (R350). -/
  | dmaccs (rd rs rt : Reg)
  /-- DMACCUS (R350). -/
  | dmaccus (rd rs rt : Reg)
  /-- DMACCHIS (R350). -/
  | dmacchis (rd rs rt : Reg)
  /-- DMACCHIUS (R350). -/
  | dmacchius (rd rs rt : Reg)
  -- Jumps and branches (spec/44_jump_branch.md)
  /-- J (R370). -/
  | j (target : BitVec 26)
  /-- JAL (R371). -/
  | jal (target : BitVec 26)
  /-- JALX (R377). -/
  | jalx (target : BitVec 26)
  /-- JR (R372). -/
  | jr (rs : Reg)
  /-- JALR (R373). -/
  | jalr (rd rs : Reg)
  /-- BEQ (R380). -/
  | beq (rs rt : Reg) (offset : Half)
  /-- BNE (R381). -/
  | bne (rs rt : Reg) (offset : Half)
  /-- BLEZ (R382). -/
  | blez (rs : Reg) (offset : Half)
  /-- BGTZ (R383). -/
  | bgtz (rs : Reg) (offset : Half)
  /-- BEQL (R384). -/
  | beql (rs rt : Reg) (offset : Half)
  /-- BNEL (R385). -/
  | bnel (rs rt : Reg) (offset : Half)
  /-- BLEZL (R386). -/
  | blezl (rs : Reg) (offset : Half)
  /-- BGTZL (R387). -/
  | bgtzl (rs : Reg) (offset : Half)
  /-- BLTZ (R388). -/
  | bltz (rs : Reg) (offset : Half)
  /-- BGEZ (R389). -/
  | bgez (rs : Reg) (offset : Half)
  /-- BLTZL (R390). -/
  | bltzl (rs : Reg) (offset : Half)
  /-- BGEZL (R391). -/
  | bgezl (rs : Reg) (offset : Half)
  /-- BLTZAL (R392). -/
  | bltzal (rs : Reg) (offset : Half)
  /-- BGEZAL (R393). -/
  | bgezal (rs : Reg) (offset : Half)
  /-- BLTZALL (R394). -/
  | bltzall (rs : Reg) (offset : Half)
  /-- BGEZALL (R395). -/
  | bgezall (rs : Reg) (offset : Half)
  /-- BC0F (R396). -/
  | bc0f (offset : Half)
  /-- BC0T (R397). -/
  | bc0t (offset : Half)
  /-- BC0FL (R398). -/
  | bc0fl (offset : Half)
  /-- BC0TL (R399). -/
  | bc0tl (offset : Half)
  -- Special instructions and traps (spec/45_special_trap.md)
  /-- SYSCALL (R402). -/
  | syscall (code : BitVec 20)
  /-- BREAK (R403). -/
  | brk (code : BitVec 20)
  /-- SYNC (R404). -/
  | sync
  /-- TGE (R410). -/
  | tge (rs rt : Reg) (code : BitVec 10)
  /-- TGEU (R411). -/
  | tgeu (rs rt : Reg) (code : BitVec 10)
  /-- TLT (R412). -/
  | tlt (rs rt : Reg) (code : BitVec 10)
  /-- TLTU (R413). -/
  | tltu (rs rt : Reg) (code : BitVec 10)
  /-- TEQ (R414). -/
  | teq (rs rt : Reg) (code : BitVec 10)
  /-- TNE (R415). -/
  | tne (rs rt : Reg) (code : BitVec 10)
  /-- TGEI (R416). -/
  | tgei (rs : Reg) (imm : Half)
  /-- TGEIU (R417). -/
  | tgeiu (rs : Reg) (imm : Half)
  /-- TLTI (R418). -/
  | tlti (rs : Reg) (imm : Half)
  /-- TLTIU (R419). -/
  | tltiu (rs : Reg) (imm : Half)
  /-- TEQI (R420). -/
  | teqi (rs : Reg) (imm : Half)
  /-- TNEI (R421). -/
  | tnei (rs : Reg) (imm : Half)
  -- System control coprocessor (spec/46_cp0_tlb_cache_power.md)
  /-- MFC0 (R430). -/
  | mfc0 (rt rd : Reg)
  /-- MTC0 (R431). -/
  | mtc0 (rt rd : Reg)
  /-- DMFC0 (R432). -/
  | dmfc0 (rt rd : Reg)
  /-- DMTC0 (R433). -/
  | dmtc0 (rt rd : Reg)
  /-- TLBR (R436). -/
  | tlbr
  /-- TLBWI (R437). -/
  | tlbwi
  /-- TLBWR (R438). -/
  | tlbwr
  /-- TLBP (R435). -/
  | tlbp
  /-- ERET (R439). -/
  | eret
  /-- STANDBY (R460). -/
  | standby
  /-- SUSPEND (R461). -/
  | suspend
  /-- HIBERNATE (R462). -/
  | hibernate
  /-- CACHE (R440). -/
  | cache (op : BitVec 5) (base : Reg) (offset : Half)
  -- Encodings the core refuses by an exception (spec/30_encoding.md R184, R189)
  /-- LL (R243). -/
  | ll (rt base : Reg) (offset : Half)
  /-- LLD (R243). -/
  | lld (rt base : Reg) (offset : Half)
  /-- SC (R243). -/
  | sc (rt base : Reg) (offset : Half)
  /-- SCD (R243). -/
  | scd (rt base : Reg) (offset : Half)
  /-- COP1 (R189). -/
  | cop1 (rest : BitVec 26)
  /-- LWC1 (R189). -/
  | lwc1 (rt base : Reg) (offset : Half)
  /-- LDC1 (R189). -/
  | ldc1 (rt base : Reg) (offset : Half)
  /-- SWC1 (R189). -/
  | swc1 (rt base : Reg) (offset : Half)
  /-- SDC1 (R189). -/
  | sdc1 (rt base : Reg) (offset : Half)
  /-- COP2 (R189). -/
  | cop2 (rest : BitVec 26)
  /-- LWC2 (R189). -/
  | lwc2 (rt base : Reg) (offset : Half)
  /-- LDC2 (R189). -/
  | ldc2 (rt base : Reg) (offset : Half)
  /-- SWC2 (R189). -/
  | swc2 (rt base : Reg) (offset : Half)
  /-- SDC2 (R189). -/
  | sdc2 (rt base : Reg) (offset : Half)
deriving DecidableEq, Repr

end Sys2Proof
end

