-- ==== Sys2Proof/Decode.lean ====
section
/-! DEFINITION. Decoding an instruction word (spec/30_encoding.md R183–R190) and, after it, encoding an instruction.
A word is decoded by its opcode and function fields only; must-be-zero fields are ignored (R190, D27). -/
namespace Sys2Proof

/-- Why a word is no instruction. -/
inductive Reject where
  /-- An undefined opcode, SPECIAL function, REGIMM sub-opcode or a coprocessor 3 word: Reserved Instruction (R184–R186). -/
  | reserved
  /-- An undefined COP0 encoding: the usability test, then Reserved Instruction (R187, R188, D26). -/
  | reservedCop0
deriving DecidableEq, Repr

/-! ### Fields of the word (R181) -/

/-- `op`, bits 31:26. -/
def opOf (w : Word) : BitVec 6 := w.extractLsb' 26 6
/-- `rs` or `base`, bits 25:21. -/
def rsOf (w : Word) : Reg := w.extractLsb' 21 5
/-- `rt`, bits 20:16. -/
def rtOf (w : Word) : Reg := w.extractLsb' 16 5
/-- `rd`, bits 15:11. -/
def rdOf (w : Word) : Reg := w.extractLsb' 11 5
/-- `sa`, bits 10:6. -/
def saOf (w : Word) : BitVec 5 := w.extractLsb' 6 5
/-- `funct`, bits 5:0. -/
def functOf (w : Word) : BitVec 6 := w.extractLsb' 0 6
/-- `immediate` or `offset`, bits 15:0. -/
def immOf (w : Word) : Half := w.extractLsb' 0 16
/-- `target`, bits 25:0. -/
def targetOf (w : Word) : BitVec 26 := w.extractLsb' 0 26
/-- `code` of SYSCALL and BREAK, bits 25:6 (R401). -/
def code20Of (w : Word) : BitVec 20 := w.extractLsb' 6 20
/-- `code` of the register traps, bits 15:6 (R401). -/
def code10Of (w : Word) : BitVec 10 := w.extractLsb' 6 10
/-- sat ‖ hi ‖ us of MACC and DMACC: bits 10, 9 and 6 (R344). -/
def maccOf (w : Word) : BitVec 3 := (w.extractLsb' 9 2 ++ w.extractLsb' 6 1 : BitVec 3)

/-! ### Decoding -/

/-- The eight MACC mnemonics, by sat, hi and us (R344). -/
def decodeMacc (w : Word) : Except Reject Instr :=
  match (maccOf w).toNat with
  | 0x0 => .ok (.macc (rdOf w) (rsOf w) (rtOf w))
  | 0x1 => .ok (.maccu (rdOf w) (rsOf w) (rtOf w))
  | 0x2 => .ok (.macchi (rdOf w) (rsOf w) (rtOf w))
  | 0x3 => .ok (.macchiu (rdOf w) (rsOf w) (rtOf w))
  | 0x4 => .ok (.maccs (rdOf w) (rsOf w) (rtOf w))
  | 0x5 => .ok (.maccus (rdOf w) (rsOf w) (rtOf w))
  | 0x6 => .ok (.macchis (rdOf w) (rsOf w) (rtOf w))
  | 0x7 => .ok (.macchius (rdOf w) (rsOf w) (rtOf w))
  | _ => .error .reserved

/-- The eight DMACC mnemonics, by sat, hi and us (R344). -/
def decodeDmacc (w : Word) : Except Reject Instr :=
  match (maccOf w).toNat with
  | 0x0 => .ok (.dmacc (rdOf w) (rsOf w) (rtOf w))
  | 0x1 => .ok (.dmaccu (rdOf w) (rsOf w) (rtOf w))
  | 0x2 => .ok (.dmacchi (rdOf w) (rsOf w) (rtOf w))
  | 0x3 => .ok (.dmacchiu (rdOf w) (rsOf w) (rtOf w))
  | 0x4 => .ok (.dmaccs (rdOf w) (rsOf w) (rtOf w))
  | 0x5 => .ok (.dmaccus (rdOf w) (rsOf w) (rtOf w))
  | 0x6 => .ok (.dmacchis (rdOf w) (rsOf w) (rtOf w))
  | 0x7 => .ok (.dmacchius (rdOf w) (rsOf w) (rtOf w))
  | _ => .error .reserved

/-- SPECIAL, by `funct` (R185). -/
def decodeSpecial (w : Word) : Except Reject Instr :=
  match (functOf w).toNat with
  | 0x00 => .ok (.sll (rdOf w) (rtOf w) (saOf w))
  | 0x02 => .ok (.srl (rdOf w) (rtOf w) (saOf w))
  | 0x03 => .ok (.sra (rdOf w) (rtOf w) (saOf w))
  | 0x04 => .ok (.sllv (rdOf w) (rtOf w) (rsOf w))
  | 0x06 => .ok (.srlv (rdOf w) (rtOf w) (rsOf w))
  | 0x07 => .ok (.srav (rdOf w) (rtOf w) (rsOf w))
  | 0x08 => .ok (.jr (rsOf w))
  | 0x09 => .ok (.jalr (rdOf w) (rsOf w))
  | 0x0C => .ok (.syscall (code20Of w))
  | 0x0D => .ok (.brk (code20Of w))
  | 0x0F => .ok .sync
  | 0x10 => .ok (.mfhi (rdOf w))
  | 0x11 => .ok (.mthi (rsOf w))
  | 0x12 => .ok (.mflo (rdOf w))
  | 0x13 => .ok (.mtlo (rsOf w))
  | 0x14 => .ok (.dsllv (rdOf w) (rtOf w) (rsOf w))
  | 0x16 => .ok (.dsrlv (rdOf w) (rtOf w) (rsOf w))
  | 0x17 => .ok (.dsrav (rdOf w) (rtOf w) (rsOf w))
  | 0x18 => .ok (.mult (rsOf w) (rtOf w))
  | 0x19 => .ok (.multu (rsOf w) (rtOf w))
  | 0x1A => .ok (.div (rsOf w) (rtOf w))
  | 0x1B => .ok (.divu (rsOf w) (rtOf w))
  | 0x1C => .ok (.dmult (rsOf w) (rtOf w))
  | 0x1D => .ok (.dmultu (rsOf w) (rtOf w))
  | 0x1E => .ok (.ddiv (rsOf w) (rtOf w))
  | 0x1F => .ok (.ddivu (rsOf w) (rtOf w))
  | 0x20 => .ok (.add (rdOf w) (rsOf w) (rtOf w))
  | 0x21 => .ok (.addu (rdOf w) (rsOf w) (rtOf w))
  | 0x22 => .ok (.sub (rdOf w) (rsOf w) (rtOf w))
  | 0x23 => .ok (.subu (rdOf w) (rsOf w) (rtOf w))
  | 0x24 => .ok (.and (rdOf w) (rsOf w) (rtOf w))
  | 0x25 => .ok (.or (rdOf w) (rsOf w) (rtOf w))
  | 0x26 => .ok (.xor (rdOf w) (rsOf w) (rtOf w))
  | 0x27 => .ok (.nor (rdOf w) (rsOf w) (rtOf w))
  | 0x2A => .ok (.slt (rdOf w) (rsOf w) (rtOf w))
  | 0x2B => .ok (.sltu (rdOf w) (rsOf w) (rtOf w))
  | 0x2C => .ok (.dadd (rdOf w) (rsOf w) (rtOf w))
  | 0x2D => .ok (.daddu (rdOf w) (rsOf w) (rtOf w))
  | 0x2E => .ok (.dsub (rdOf w) (rsOf w) (rtOf w))
  | 0x2F => .ok (.dsubu (rdOf w) (rsOf w) (rtOf w))
  | 0x30 => .ok (.tge (rsOf w) (rtOf w) (code10Of w))
  | 0x31 => .ok (.tgeu (rsOf w) (rtOf w) (code10Of w))
  | 0x32 => .ok (.tlt (rsOf w) (rtOf w) (code10Of w))
  | 0x33 => .ok (.tltu (rsOf w) (rtOf w) (code10Of w))
  | 0x34 => .ok (.teq (rsOf w) (rtOf w) (code10Of w))
  | 0x36 => .ok (.tne (rsOf w) (rtOf w) (code10Of w))
  | 0x38 => .ok (.dsll (rdOf w) (rtOf w) (saOf w))
  | 0x3A => .ok (.dsrl (rdOf w) (rtOf w) (saOf w))
  | 0x3B => .ok (.dsra (rdOf w) (rtOf w) (saOf w))
  | 0x3C => .ok (.dsll32 (rdOf w) (rtOf w) (saOf w))
  | 0x3E => .ok (.dsrl32 (rdOf w) (rtOf w) (saOf w))
  | 0x3F => .ok (.dsra32 (rdOf w) (rtOf w) (saOf w))
  | 0x28 => decodeMacc w
  | 0x29 => decodeDmacc w
  | _ => .error .reserved

/-- REGIMM, by bits 20:16 (R186). -/
def decodeRegimm (w : Word) : Except Reject Instr :=
  match (rtOf w).toNat with
  | 0x00 => .ok (.bltz (rsOf w) (immOf w))
  | 0x01 => .ok (.bgez (rsOf w) (immOf w))
  | 0x02 => .ok (.bltzl (rsOf w) (immOf w))
  | 0x03 => .ok (.bgezl (rsOf w) (immOf w))
  | 0x08 => .ok (.tgei (rsOf w) (immOf w))
  | 0x09 => .ok (.tgeiu (rsOf w) (immOf w))
  | 0x0A => .ok (.tlti (rsOf w) (immOf w))
  | 0x0B => .ok (.tltiu (rsOf w) (immOf w))
  | 0x0C => .ok (.teqi (rsOf w) (immOf w))
  | 0x0E => .ok (.tnei (rsOf w) (immOf w))
  | 0x10 => .ok (.bltzal (rsOf w) (immOf w))
  | 0x11 => .ok (.bgezal (rsOf w) (immOf w))
  | 0x12 => .ok (.bltzall (rsOf w) (immOf w))
  | 0x13 => .ok (.bgezall (rsOf w) (immOf w))
  | _ => .error .reserved

/-- BC0, by bits 20:16 (R187). -/
def decodeBc0 (w : Word) : Except Reject Instr :=
  match (rtOf w).toNat with
  | 0x00 => .ok (.bc0f (immOf w))
  | 0x01 => .ok (.bc0t (immOf w))
  | 0x02 => .ok (.bc0fl (immOf w))
  | 0x03 => .ok (.bc0tl (immOf w))
  | _ => .error .reservedCop0

/-- COP0 with CO = 1, by `funct` (R187). -/
def decodeCo (w : Word) : Except Reject Instr :=
  match (functOf w).toNat with
  | 0x01 => .ok .tlbr
  | 0x02 => .ok .tlbwi
  | 0x06 => .ok .tlbwr
  | 0x08 => .ok .tlbp
  | 0x18 => .ok .eret
  | 0x21 => .ok .standby
  | 0x22 => .ok .suspend
  | 0x23 => .ok .hibernate
  | _ => .error .reservedCop0

/-- COP0 with CO = 0, by bits 25:21 (R187). -/
def decodeMove0 (w : Word) : Except Reject Instr :=
  match (rsOf w).toNat with
  | 0x00 => .ok (.mfc0 (rtOf w) (rdOf w))
  | 0x01 => .ok (.dmfc0 (rtOf w) (rdOf w))
  | 0x04 => .ok (.mtc0 (rtOf w) (rdOf w))
  | 0x05 => .ok (.dmtc0 (rtOf w) (rdOf w))
  | 0x08 => decodeBc0 w
  | _ => .error .reservedCop0

/-- COP0 (R187). -/
def decodeCop0 (w : Word) : Except Reject Instr :=
  if w.getLsbD 25 then decodeCo w else decodeMove0 w

/-- A word read as an instruction: the primary opcode table (R184). -/
def decode (w : Word) : Except Reject Instr :=
  match (opOf w).toNat with
  | 0x02 => .ok (.j (targetOf w))
  | 0x03 => .ok (.jal (targetOf w))
  | 0x04 => .ok (.beq (rsOf w) (rtOf w) (immOf w))
  | 0x05 => .ok (.bne (rsOf w) (rtOf w) (immOf w))
  | 0x06 => .ok (.blez (rsOf w) (immOf w))
  | 0x07 => .ok (.bgtz (rsOf w) (immOf w))
  | 0x08 => .ok (.addi (rtOf w) (rsOf w) (immOf w))
  | 0x09 => .ok (.addiu (rtOf w) (rsOf w) (immOf w))
  | 0x0A => .ok (.slti (rtOf w) (rsOf w) (immOf w))
  | 0x0B => .ok (.sltiu (rtOf w) (rsOf w) (immOf w))
  | 0x0C => .ok (.andi (rtOf w) (rsOf w) (immOf w))
  | 0x0D => .ok (.ori (rtOf w) (rsOf w) (immOf w))
  | 0x0E => .ok (.xori (rtOf w) (rsOf w) (immOf w))
  | 0x0F => .ok (.lui (rtOf w) (immOf w))
  | 0x11 => .ok (.cop1 (targetOf w))
  | 0x12 => .ok (.cop2 (targetOf w))
  | 0x14 => .ok (.beql (rsOf w) (rtOf w) (immOf w))
  | 0x15 => .ok (.bnel (rsOf w) (rtOf w) (immOf w))
  | 0x16 => .ok (.blezl (rsOf w) (immOf w))
  | 0x17 => .ok (.bgtzl (rsOf w) (immOf w))
  | 0x18 => .ok (.daddi (rtOf w) (rsOf w) (immOf w))
  | 0x19 => .ok (.daddiu (rtOf w) (rsOf w) (immOf w))
  | 0x1A => .ok (.ldl (rtOf w) (rsOf w) (immOf w))
  | 0x1B => .ok (.ldr (rtOf w) (rsOf w) (immOf w))
  | 0x1D => .ok (.jalx (targetOf w))
  | 0x20 => .ok (.lb (rtOf w) (rsOf w) (immOf w))
  | 0x21 => .ok (.lh (rtOf w) (rsOf w) (immOf w))
  | 0x22 => .ok (.lwl (rtOf w) (rsOf w) (immOf w))
  | 0x23 => .ok (.lw (rtOf w) (rsOf w) (immOf w))
  | 0x24 => .ok (.lbu (rtOf w) (rsOf w) (immOf w))
  | 0x25 => .ok (.lhu (rtOf w) (rsOf w) (immOf w))
  | 0x26 => .ok (.lwr (rtOf w) (rsOf w) (immOf w))
  | 0x27 => .ok (.lwu (rtOf w) (rsOf w) (immOf w))
  | 0x28 => .ok (.sb (rtOf w) (rsOf w) (immOf w))
  | 0x29 => .ok (.sh (rtOf w) (rsOf w) (immOf w))
  | 0x2A => .ok (.swl (rtOf w) (rsOf w) (immOf w))
  | 0x2B => .ok (.sw (rtOf w) (rsOf w) (immOf w))
  | 0x2C => .ok (.sdl (rtOf w) (rsOf w) (immOf w))
  | 0x2D => .ok (.sdr (rtOf w) (rsOf w) (immOf w))
  | 0x2E => .ok (.swr (rtOf w) (rsOf w) (immOf w))
  | 0x2F => .ok (.cache (rtOf w) (rsOf w) (immOf w))
  | 0x30 => .ok (.ll (rtOf w) (rsOf w) (immOf w))
  | 0x31 => .ok (.lwc1 (rtOf w) (rsOf w) (immOf w))
  | 0x32 => .ok (.lwc2 (rtOf w) (rsOf w) (immOf w))
  | 0x34 => .ok (.lld (rtOf w) (rsOf w) (immOf w))
  | 0x35 => .ok (.ldc1 (rtOf w) (rsOf w) (immOf w))
  | 0x36 => .ok (.ldc2 (rtOf w) (rsOf w) (immOf w))
  | 0x37 => .ok (.ld (rtOf w) (rsOf w) (immOf w))
  | 0x38 => .ok (.sc (rtOf w) (rsOf w) (immOf w))
  | 0x39 => .ok (.swc1 (rtOf w) (rsOf w) (immOf w))
  | 0x3A => .ok (.swc2 (rtOf w) (rsOf w) (immOf w))
  | 0x3C => .ok (.scd (rtOf w) (rsOf w) (immOf w))
  | 0x3D => .ok (.sdc1 (rtOf w) (rsOf w) (immOf w))
  | 0x3E => .ok (.sdc2 (rtOf w) (rsOf w) (immOf w))
  | 0x3F => .ok (.sd (rtOf w) (rsOf w) (immOf w))
  | 0x00 => decodeSpecial w
  | 0x01 => decodeRegimm w
  | 0x10 => decodeCop0 w
  | _ => .error .reserved

/-- The word that four bytes hold, the first at the lowest address (R180). -/
def wordOfBytes (b0 b1 b2 b3 : Byte) : Word := ((b3 ++ b2 : BitVec 16) ++ (b1 ++ b0 : BitVec 16) : BitVec 32)

/-- The instruction and the bytes behind it; `none` where fewer than four bytes are left. -/
def decodeBytes : List Byte → Option (Except Reject Instr × List Byte)
  | b0 :: b1 :: b2 :: b3 :: rest => some (decode (wordOfBytes b0 b1 b2 b3), rest)
  | _ => none

/-! ### Encoding -/

/-- R-type (R181). -/
def encodeR (op : BitVec 6) (rs rt rd sa : BitVec 5) (funct : BitVec 6) : Word :=
  (op ++ rs ++ rt ++ rd ++ sa ++ funct : BitVec _)

/-- I-type (R181). -/
def encodeI (op : BitVec 6) (rs rt : BitVec 5) (imm : Half) : Word := (op ++ rs ++ rt ++ imm : BitVec _)

/-- J-type (R181). -/
def encodeJ (op : BitVec 6) (target : BitVec 26) : Word := op ++ target

/-- SYSCALL and BREAK: SPECIAL with a 20-bit code (R401). -/
def encodeCode (code : BitVec 20) (funct : BitVec 6) : Word := ((0 : BitVec 6) ++ code ++ funct : BitVec _)

/-- A register trap: SPECIAL with a 10-bit code (R401). -/
def encodeTrap (rs rt : Reg) (code : BitVec 10) (funct : BitVec 6) : Word :=
  ((0 : BitVec 6) ++ rs ++ rt ++ code ++ funct : BitVec _)

/-- The word of an instruction (R191), every must-be-zero field 0. -/
def encode : Instr → Word
  | .lb rt base offset => encodeI 0x20 base rt offset
  | .lbu rt base offset => encodeI 0x24 base rt offset
  | .lh rt base offset => encodeI 0x21 base rt offset
  | .lhu rt base offset => encodeI 0x25 base rt offset
  | .lw rt base offset => encodeI 0x23 base rt offset
  | .lwl rt base offset => encodeI 0x22 base rt offset
  | .lwr rt base offset => encodeI 0x26 base rt offset
  | .lwu rt base offset => encodeI 0x27 base rt offset
  | .ld rt base offset => encodeI 0x37 base rt offset
  | .ldl rt base offset => encodeI 0x1A base rt offset
  | .ldr rt base offset => encodeI 0x1B base rt offset
  | .sb rt base offset => encodeI 0x28 base rt offset
  | .sh rt base offset => encodeI 0x29 base rt offset
  | .sw rt base offset => encodeI 0x2B base rt offset
  | .swl rt base offset => encodeI 0x2A base rt offset
  | .swr rt base offset => encodeI 0x2E base rt offset
  | .sd rt base offset => encodeI 0x3F base rt offset
  | .sdl rt base offset => encodeI 0x2C base rt offset
  | .sdr rt base offset => encodeI 0x2D base rt offset
  | .addi rt rs imm => encodeI 0x08 rs rt imm
  | .addiu rt rs imm => encodeI 0x09 rs rt imm
  | .slti rt rs imm => encodeI 0x0A rs rt imm
  | .sltiu rt rs imm => encodeI 0x0B rs rt imm
  | .andi rt rs imm => encodeI 0x0C rs rt imm
  | .ori rt rs imm => encodeI 0x0D rs rt imm
  | .xori rt rs imm => encodeI 0x0E rs rt imm
  | .lui rt imm => encodeI 0x0F 0 rt imm
  | .daddi rt rs imm => encodeI 0x18 rs rt imm
  | .daddiu rt rs imm => encodeI 0x19 rs rt imm
  | .add rd rs rt => encodeR 0x00 rs rt rd 0 0x20
  | .addu rd rs rt => encodeR 0x00 rs rt rd 0 0x21
  | .sub rd rs rt => encodeR 0x00 rs rt rd 0 0x22
  | .subu rd rs rt => encodeR 0x00 rs rt rd 0 0x23
  | .and rd rs rt => encodeR 0x00 rs rt rd 0 0x24
  | .or rd rs rt => encodeR 0x00 rs rt rd 0 0x25
  | .xor rd rs rt => encodeR 0x00 rs rt rd 0 0x26
  | .nor rd rs rt => encodeR 0x00 rs rt rd 0 0x27
  | .slt rd rs rt => encodeR 0x00 rs rt rd 0 0x2A
  | .sltu rd rs rt => encodeR 0x00 rs rt rd 0 0x2B
  | .dadd rd rs rt => encodeR 0x00 rs rt rd 0 0x2C
  | .daddu rd rs rt => encodeR 0x00 rs rt rd 0 0x2D
  | .dsub rd rs rt => encodeR 0x00 rs rt rd 0 0x2E
  | .dsubu rd rs rt => encodeR 0x00 rs rt rd 0 0x2F
  | .sll rd rt sa => encodeR 0x00 0 rt rd sa 0x00
  | .srl rd rt sa => encodeR 0x00 0 rt rd sa 0x02
  | .sra rd rt sa => encodeR 0x00 0 rt rd sa 0x03
  | .sllv rd rt rs => encodeR 0x00 rs rt rd 0 0x04
  | .srlv rd rt rs => encodeR 0x00 rs rt rd 0 0x06
  | .srav rd rt rs => encodeR 0x00 rs rt rd 0 0x07
  | .dsll rd rt sa => encodeR 0x00 0 rt rd sa 0x38
  | .dsrl rd rt sa => encodeR 0x00 0 rt rd sa 0x3A
  | .dsra rd rt sa => encodeR 0x00 0 rt rd sa 0x3B
  | .dsllv rd rt rs => encodeR 0x00 rs rt rd 0 0x14
  | .dsrlv rd rt rs => encodeR 0x00 rs rt rd 0 0x16
  | .dsrav rd rt rs => encodeR 0x00 rs rt rd 0 0x17
  | .dsll32 rd rt sa => encodeR 0x00 0 rt rd sa 0x3C
  | .dsrl32 rd rt sa => encodeR 0x00 0 rt rd sa 0x3E
  | .dsra32 rd rt sa => encodeR 0x00 0 rt rd sa 0x3F
  | .mult rs rt => encodeR 0x00 rs rt 0 0 0x18
  | .multu rs rt => encodeR 0x00 rs rt 0 0 0x19
  | .div rs rt => encodeR 0x00 rs rt 0 0 0x1A
  | .divu rs rt => encodeR 0x00 rs rt 0 0 0x1B
  | .dmult rs rt => encodeR 0x00 rs rt 0 0 0x1C
  | .dmultu rs rt => encodeR 0x00 rs rt 0 0 0x1D
  | .ddiv rs rt => encodeR 0x00 rs rt 0 0 0x1E
  | .ddivu rs rt => encodeR 0x00 rs rt 0 0 0x1F
  | .mfhi rd => encodeR 0x00 0 0 rd 0 0x10
  | .mthi rs => encodeR 0x00 rs 0 0 0 0x11
  | .mflo rd => encodeR 0x00 0 0 rd 0 0x12
  | .mtlo rs => encodeR 0x00 rs 0 0 0 0x13
  | .macc rd rs rt => encodeR 0x00 rs rt rd 0x00 0x28
  | .maccu rd rs rt => encodeR 0x00 rs rt rd 0x01 0x28
  | .macchi rd rs rt => encodeR 0x00 rs rt rd 0x08 0x28
  | .macchiu rd rs rt => encodeR 0x00 rs rt rd 0x09 0x28
  | .maccs rd rs rt => encodeR 0x00 rs rt rd 0x10 0x28
  | .maccus rd rs rt => encodeR 0x00 rs rt rd 0x11 0x28
  | .macchis rd rs rt => encodeR 0x00 rs rt rd 0x18 0x28
  | .macchius rd rs rt => encodeR 0x00 rs rt rd 0x19 0x28
  | .dmacc rd rs rt => encodeR 0x00 rs rt rd 0x00 0x29
  | .dmaccu rd rs rt => encodeR 0x00 rs rt rd 0x01 0x29
  | .dmacchi rd rs rt => encodeR 0x00 rs rt rd 0x08 0x29
  | .dmacchiu rd rs rt => encodeR 0x00 rs rt rd 0x09 0x29
  | .dmaccs rd rs rt => encodeR 0x00 rs rt rd 0x10 0x29
  | .dmaccus rd rs rt => encodeR 0x00 rs rt rd 0x11 0x29
  | .dmacchis rd rs rt => encodeR 0x00 rs rt rd 0x18 0x29
  | .dmacchius rd rs rt => encodeR 0x00 rs rt rd 0x19 0x29
  | .j target => encodeJ 0x02 target
  | .jal target => encodeJ 0x03 target
  | .jalx target => encodeJ 0x1D target
  | .jr rs => encodeR 0x00 rs 0 0 0 0x08
  | .jalr rd rs => encodeR 0x00 rs 0 rd 0 0x09
  | .beq rs rt offset => encodeI 0x04 rs rt offset
  | .bne rs rt offset => encodeI 0x05 rs rt offset
  | .blez rs offset => encodeI 0x06 rs 0 offset
  | .bgtz rs offset => encodeI 0x07 rs 0 offset
  | .beql rs rt offset => encodeI 0x14 rs rt offset
  | .bnel rs rt offset => encodeI 0x15 rs rt offset
  | .blezl rs offset => encodeI 0x16 rs 0 offset
  | .bgtzl rs offset => encodeI 0x17 rs 0 offset
  | .bltz rs offset => encodeI 0x01 rs 0x00 offset
  | .bgez rs offset => encodeI 0x01 rs 0x01 offset
  | .bltzl rs offset => encodeI 0x01 rs 0x02 offset
  | .bgezl rs offset => encodeI 0x01 rs 0x03 offset
  | .bltzal rs offset => encodeI 0x01 rs 0x10 offset
  | .bgezal rs offset => encodeI 0x01 rs 0x11 offset
  | .bltzall rs offset => encodeI 0x01 rs 0x12 offset
  | .bgezall rs offset => encodeI 0x01 rs 0x13 offset
  | .bc0f offset => encodeI 0x10 0x08 0x00 offset
  | .bc0t offset => encodeI 0x10 0x08 0x01 offset
  | .bc0fl offset => encodeI 0x10 0x08 0x02 offset
  | .bc0tl offset => encodeI 0x10 0x08 0x03 offset
  | .syscall code => encodeCode code 0x0C
  | .brk code => encodeCode code 0x0D
  | .sync => encodeR 0x00 0 0 0 0 0x0F
  | .tge rs rt code => encodeTrap rs rt code 0x30
  | .tgeu rs rt code => encodeTrap rs rt code 0x31
  | .tlt rs rt code => encodeTrap rs rt code 0x32
  | .tltu rs rt code => encodeTrap rs rt code 0x33
  | .teq rs rt code => encodeTrap rs rt code 0x34
  | .tne rs rt code => encodeTrap rs rt code 0x36
  | .tgei rs imm => encodeI 0x01 rs 0x08 imm
  | .tgeiu rs imm => encodeI 0x01 rs 0x09 imm
  | .tlti rs imm => encodeI 0x01 rs 0x0A imm
  | .tltiu rs imm => encodeI 0x01 rs 0x0B imm
  | .teqi rs imm => encodeI 0x01 rs 0x0C imm
  | .tnei rs imm => encodeI 0x01 rs 0x0E imm
  | .mfc0 rt rd => encodeR 0x10 0x00 rt rd 0 0
  | .mtc0 rt rd => encodeR 0x10 0x04 rt rd 0 0
  | .dmfc0 rt rd => encodeR 0x10 0x01 rt rd 0 0
  | .dmtc0 rt rd => encodeR 0x10 0x05 rt rd 0 0
  | .tlbr => encodeR 0x10 0x10 0 0 0 0x01
  | .tlbwi => encodeR 0x10 0x10 0 0 0 0x02
  | .tlbwr => encodeR 0x10 0x10 0 0 0 0x06
  | .tlbp => encodeR 0x10 0x10 0 0 0 0x08
  | .eret => encodeR 0x10 0x10 0 0 0 0x18
  | .standby => encodeR 0x10 0x10 0 0 0 0x21
  | .suspend => encodeR 0x10 0x10 0 0 0 0x22
  | .hibernate => encodeR 0x10 0x10 0 0 0 0x23
  | .cache op base offset => encodeI 0x2F base op offset
  | .ll rt base offset => encodeI 0x30 base rt offset
  | .lld rt base offset => encodeI 0x34 base rt offset
  | .sc rt base offset => encodeI 0x38 base rt offset
  | .scd rt base offset => encodeI 0x3C base rt offset
  | .cop1 rest => encodeJ 0x11 rest
  | .lwc1 rt base offset => encodeI 0x31 base rt offset
  | .ldc1 rt base offset => encodeI 0x35 base rt offset
  | .swc1 rt base offset => encodeI 0x39 base rt offset
  | .sdc1 rt base offset => encodeI 0x3D base rt offset
  | .cop2 rest => encodeJ 0x12 rest
  | .lwc2 rt base offset => encodeI 0x32 base rt offset
  | .ldc2 rt base offset => encodeI 0x36 base rt offset
  | .swc2 rt base offset => encodeI 0x3A base rt offset
  | .sdc2 rt base offset => encodeI 0x3E base rt offset

/-- The opcode table (spec/opcode_table.json): the bits of the word that identify an instruction, and their values. -/
def Instr.row : Instr → Word × Word
  | .lb _ _ _ => (0xFC000000, 0x80000000)
  | .lbu _ _ _ => (0xFC000000, 0x90000000)
  | .lh _ _ _ => (0xFC000000, 0x84000000)
  | .lhu _ _ _ => (0xFC000000, 0x94000000)
  | .lw _ _ _ => (0xFC000000, 0x8C000000)
  | .lwl _ _ _ => (0xFC000000, 0x88000000)
  | .lwr _ _ _ => (0xFC000000, 0x98000000)
  | .lwu _ _ _ => (0xFC000000, 0x9C000000)
  | .ld _ _ _ => (0xFC000000, 0xDC000000)
  | .ldl _ _ _ => (0xFC000000, 0x68000000)
  | .ldr _ _ _ => (0xFC000000, 0x6C000000)
  | .sb _ _ _ => (0xFC000000, 0xA0000000)
  | .sh _ _ _ => (0xFC000000, 0xA4000000)
  | .sw _ _ _ => (0xFC000000, 0xAC000000)
  | .swl _ _ _ => (0xFC000000, 0xA8000000)
  | .swr _ _ _ => (0xFC000000, 0xB8000000)
  | .sd _ _ _ => (0xFC000000, 0xFC000000)
  | .sdl _ _ _ => (0xFC000000, 0xB0000000)
  | .sdr _ _ _ => (0xFC000000, 0xB4000000)
  | .addi _ _ _ => (0xFC000000, 0x20000000)
  | .addiu _ _ _ => (0xFC000000, 0x24000000)
  | .slti _ _ _ => (0xFC000000, 0x28000000)
  | .sltiu _ _ _ => (0xFC000000, 0x2C000000)
  | .andi _ _ _ => (0xFC000000, 0x30000000)
  | .ori _ _ _ => (0xFC000000, 0x34000000)
  | .xori _ _ _ => (0xFC000000, 0x38000000)
  | .lui _ _ => (0xFC000000, 0x3C000000)
  | .daddi _ _ _ => (0xFC000000, 0x60000000)
  | .daddiu _ _ _ => (0xFC000000, 0x64000000)
  | .add _ _ _ => (0xFC00003F, 0x00000020)
  | .addu _ _ _ => (0xFC00003F, 0x00000021)
  | .sub _ _ _ => (0xFC00003F, 0x00000022)
  | .subu _ _ _ => (0xFC00003F, 0x00000023)
  | .and _ _ _ => (0xFC00003F, 0x00000024)
  | .or _ _ _ => (0xFC00003F, 0x00000025)
  | .xor _ _ _ => (0xFC00003F, 0x00000026)
  | .nor _ _ _ => (0xFC00003F, 0x00000027)
  | .slt _ _ _ => (0xFC00003F, 0x0000002A)
  | .sltu _ _ _ => (0xFC00003F, 0x0000002B)
  | .dadd _ _ _ => (0xFC00003F, 0x0000002C)
  | .daddu _ _ _ => (0xFC00003F, 0x0000002D)
  | .dsub _ _ _ => (0xFC00003F, 0x0000002E)
  | .dsubu _ _ _ => (0xFC00003F, 0x0000002F)
  | .sll _ _ _ => (0xFC00003F, 0x00000000)
  | .srl _ _ _ => (0xFC00003F, 0x00000002)
  | .sra _ _ _ => (0xFC00003F, 0x00000003)
  | .sllv _ _ _ => (0xFC00003F, 0x00000004)
  | .srlv _ _ _ => (0xFC00003F, 0x00000006)
  | .srav _ _ _ => (0xFC00003F, 0x00000007)
  | .dsll _ _ _ => (0xFC00003F, 0x00000038)
  | .dsrl _ _ _ => (0xFC00003F, 0x0000003A)
  | .dsra _ _ _ => (0xFC00003F, 0x0000003B)
  | .dsllv _ _ _ => (0xFC00003F, 0x00000014)
  | .dsrlv _ _ _ => (0xFC00003F, 0x00000016)
  | .dsrav _ _ _ => (0xFC00003F, 0x00000017)
  | .dsll32 _ _ _ => (0xFC00003F, 0x0000003C)
  | .dsrl32 _ _ _ => (0xFC00003F, 0x0000003E)
  | .dsra32 _ _ _ => (0xFC00003F, 0x0000003F)
  | .mult _ _ => (0xFC00003F, 0x00000018)
  | .multu _ _ => (0xFC00003F, 0x00000019)
  | .div _ _ => (0xFC00003F, 0x0000001A)
  | .divu _ _ => (0xFC00003F, 0x0000001B)
  | .dmult _ _ => (0xFC00003F, 0x0000001C)
  | .dmultu _ _ => (0xFC00003F, 0x0000001D)
  | .ddiv _ _ => (0xFC00003F, 0x0000001E)
  | .ddivu _ _ => (0xFC00003F, 0x0000001F)
  | .mfhi _ => (0xFC00003F, 0x00000010)
  | .mthi _ => (0xFC00003F, 0x00000011)
  | .mflo _ => (0xFC00003F, 0x00000012)
  | .mtlo _ => (0xFC00003F, 0x00000013)
  | .macc _ _ _ => (0xFC00067F, 0x00000028)
  | .maccu _ _ _ => (0xFC00067F, 0x00000068)
  | .macchi _ _ _ => (0xFC00067F, 0x00000228)
  | .macchiu _ _ _ => (0xFC00067F, 0x00000268)
  | .maccs _ _ _ => (0xFC00067F, 0x00000428)
  | .maccus _ _ _ => (0xFC00067F, 0x00000468)
  | .macchis _ _ _ => (0xFC00067F, 0x00000628)
  | .macchius _ _ _ => (0xFC00067F, 0x00000668)
  | .dmacc _ _ _ => (0xFC00067F, 0x00000029)
  | .dmaccu _ _ _ => (0xFC00067F, 0x00000069)
  | .dmacchi _ _ _ => (0xFC00067F, 0x00000229)
  | .dmacchiu _ _ _ => (0xFC00067F, 0x00000269)
  | .dmaccs _ _ _ => (0xFC00067F, 0x00000429)
  | .dmaccus _ _ _ => (0xFC00067F, 0x00000469)
  | .dmacchis _ _ _ => (0xFC00067F, 0x00000629)
  | .dmacchius _ _ _ => (0xFC00067F, 0x00000669)
  | .j _ => (0xFC000000, 0x08000000)
  | .jal _ => (0xFC000000, 0x0C000000)
  | .jalx _ => (0xFC000000, 0x74000000)
  | .jr _ => (0xFC00003F, 0x00000008)
  | .jalr _ _ => (0xFC00003F, 0x00000009)
  | .beq _ _ _ => (0xFC000000, 0x10000000)
  | .bne _ _ _ => (0xFC000000, 0x14000000)
  | .blez _ _ => (0xFC000000, 0x18000000)
  | .bgtz _ _ => (0xFC000000, 0x1C000000)
  | .beql _ _ _ => (0xFC000000, 0x50000000)
  | .bnel _ _ _ => (0xFC000000, 0x54000000)
  | .blezl _ _ => (0xFC000000, 0x58000000)
  | .bgtzl _ _ => (0xFC000000, 0x5C000000)
  | .bltz _ _ => (0xFC1F0000, 0x04000000)
  | .bgez _ _ => (0xFC1F0000, 0x04010000)
  | .bltzl _ _ => (0xFC1F0000, 0x04020000)
  | .bgezl _ _ => (0xFC1F0000, 0x04030000)
  | .bltzal _ _ => (0xFC1F0000, 0x04100000)
  | .bgezal _ _ => (0xFC1F0000, 0x04110000)
  | .bltzall _ _ => (0xFC1F0000, 0x04120000)
  | .bgezall _ _ => (0xFC1F0000, 0x04130000)
  | .bc0f _ => (0xFFFF0000, 0x41000000)
  | .bc0t _ => (0xFFFF0000, 0x41010000)
  | .bc0fl _ => (0xFFFF0000, 0x41020000)
  | .bc0tl _ => (0xFFFF0000, 0x41030000)
  | .syscall _ => (0xFC00003F, 0x0000000C)
  | .brk _ => (0xFC00003F, 0x0000000D)
  | .sync => (0xFC00003F, 0x0000000F)
  | .tge _ _ _ => (0xFC00003F, 0x00000030)
  | .tgeu _ _ _ => (0xFC00003F, 0x00000031)
  | .tlt _ _ _ => (0xFC00003F, 0x00000032)
  | .tltu _ _ _ => (0xFC00003F, 0x00000033)
  | .teq _ _ _ => (0xFC00003F, 0x00000034)
  | .tne _ _ _ => (0xFC00003F, 0x00000036)
  | .tgei _ _ => (0xFC1F0000, 0x04080000)
  | .tgeiu _ _ => (0xFC1F0000, 0x04090000)
  | .tlti _ _ => (0xFC1F0000, 0x040A0000)
  | .tltiu _ _ => (0xFC1F0000, 0x040B0000)
  | .teqi _ _ => (0xFC1F0000, 0x040C0000)
  | .tnei _ _ => (0xFC1F0000, 0x040E0000)
  | .mfc0 _ _ => (0xFFE00000, 0x40000000)
  | .mtc0 _ _ => (0xFFE00000, 0x40800000)
  | .dmfc0 _ _ => (0xFFE00000, 0x40200000)
  | .dmtc0 _ _ => (0xFFE00000, 0x40A00000)
  | .tlbr => (0xFE00003F, 0x42000001)
  | .tlbwi => (0xFE00003F, 0x42000002)
  | .tlbwr => (0xFE00003F, 0x42000006)
  | .tlbp => (0xFE00003F, 0x42000008)
  | .eret => (0xFE00003F, 0x42000018)
  | .standby => (0xFE00003F, 0x42000021)
  | .suspend => (0xFE00003F, 0x42000022)
  | .hibernate => (0xFE00003F, 0x42000023)
  | .cache _ _ _ => (0xFC000000, 0xBC000000)
  | .ll _ _ _ => (0xFC000000, 0xC0000000)
  | .lld _ _ _ => (0xFC000000, 0xD0000000)
  | .sc _ _ _ => (0xFC000000, 0xE0000000)
  | .scd _ _ _ => (0xFC000000, 0xF0000000)
  | .cop1 _ => (0xFC000000, 0x44000000)
  | .lwc1 _ _ _ => (0xFC000000, 0xC4000000)
  | .ldc1 _ _ _ => (0xFC000000, 0xD4000000)
  | .swc1 _ _ _ => (0xFC000000, 0xE4000000)
  | .sdc1 _ _ _ => (0xFC000000, 0xF4000000)
  | .cop2 _ => (0xFC000000, 0x48000000)
  | .lwc2 _ _ _ => (0xFC000000, 0xC8000000)
  | .ldc2 _ _ _ => (0xFC000000, 0xD8000000)
  | .swc2 _ _ _ => (0xFC000000, 0xE8000000)
  | .sdc2 _ _ _ => (0xFC000000, 0xF8000000)

/-- The instruction read from a row of the opcode table: a word of `nbits` bits, stored little-endian (R180). -/
def decodeTableWord (nbits w : Nat) : Option Instr :=
  let v := w % 2 ^ nbits
  match decodeBytes [BitVec.ofNat 8 v, BitVec.ofNat 8 (v / 2 ^ 8), BitVec.ofNat 8 (v / 2 ^ 16), BitVec.ofNat 8 (v / 2 ^ 24)] with
  | some (.ok i, _) => some i
  | _ => none

end Sys2Proof
end

