-- ==== Sys2Proof/Config.lean ====
section
/-! DEFINITION. What the spec leaves open and no program can know: uninterpreted constants, without a body, so that
nothing can be proved of a value they give. A counter in `State` selects a fresh value each time. -/
namespace Sys2Proof

/-- The free value number `n`: every value that the spec calls undefined, unspecified or any value. -/
opaque Config.freeValue : Nat → Dword

/-- The clock cycles that step `n` takes beyond the first (spec/92_eei_decisions.md D47: any positive number). -/
opaque Config.stepCycles : Nat → Nat

/-- How many posted writes have landed by the end of step `n` (R162, R515, decision D18). -/
opaque Config.postedWritesLanding : Nat → Nat

/-- Whether the memory controller's write FIFO has written its word to SDRAM by the end of step `n` (R162 c, R163). -/
opaque Config.writeFifoDrains : Nat → Bool

/-- What a bus master takes for the byte at an address that its read does not reach. -/
opaque Config.dmaOpenByte : Nat → Byte

/-- The bytes with which a short transmit frame is padded, by place (R708, R709). -/
opaque Config.ethPad : Nat → Byte

/-- The reload value of a timer whose TMnCSR is 0 (R1014, U70). -/
opaque Config.timerZeroReload : Nat → Word

/-- What the transmit queue of the UART holds at a place after a store into the full queue `tx` (R996). -/
opaque Config.uartOverrun (tx : List Byte) (stored : Byte) (place : Nat) : Byte

/-- The hash of a destination address: bits 28:23 of its CRC, whose conventions are not stated (R769, N42). -/
opaque Config.ethHash : List Byte → BitVec 6

/-- Whether bits 47:40 of the station address are its first octet on the wire, or bits 7:0 (R714, N42). -/
opaque Config.stationHighFirst : Bool

/-- The frame check sequence of a frame, its first octet in bits 7:0 (R761). -/
opaque Config.ethFcs : List Byte → Word

/-- The VC number under which the Rx lookup table registers a VPI/VCI (R619, R660, N37). -/
opaque Config.atmLookup (table : List (Nat × Word)) (vpiVci : BitVec 24) : Option (BitVec 12)

/-- How many writes the core's internal write buffer holds beyond one (R162 a; its size is not stated). -/
opaque Config.writeBufferEntries : Nat

end Sys2Proof
end

