-- ==== Sys2Proof/Machine/Cells.lean ====
section
/-! DEFINITION. Sparse maps as lists of (key, value) pairs in one canonical form: keys strictly rising, no entry equal
to the value `d` that an unlisted key reads as. Main memory, the caches and the ATM work RAM are held this way. -/
namespace Sys2Proof.Machine

/-- The value at key `a`: that of its entry, `d` where there is none. -/
def cellGet {α : Type} (d : α) : List (Nat × α) → Nat → α
  | [], _ => d
  | (k, v) :: rest, a => if a = k then v else cellGet d rest a

/-- Drop the entry of key `a`, if the list starts with it. -/
def cellDrop {α : Type} (a : Nat) : List (Nat × α) → List (Nat × α)
  | [] => []
  | (k, v) :: rest => if a = k then rest else (k, v) :: rest

/-- Give key `a` the value `v`: its entry is replaced, inserted in order, or removed where `v` is the default. -/
def cellSet {α : Type} [DecidableEq α] (d : α) : List (Nat × α) → Nat → α → List (Nat × α)
  | [], a, v => if v = d then [] else [(a, v)]
  | (k, w) :: rest, a, v =>
    if k < a then (k, w) :: cellSet d rest a v
    else if v = d then cellDrop a ((k, w) :: rest)
    else (a, v) :: cellDrop a ((k, w) :: rest)

/-- The canonical form above the bound `lo`: every key is at least `lo`, keys rise strictly, no value is `d`. -/
def cellWf {α : Type} [DecidableEq α] (d : α) : Nat → List (Nat × α) → Bool
  | _, [] => true
  | lo, (k, v) :: rest => decide (lo ≤ k) && decide (v ≠ d) && cellWf d (k + 1) rest

end Sys2Proof.Machine
end

