-- ==== Sys2Proof/Machine/Bits.lean ====
section
/-! DEFINITION. Bit-field, sign-extension and byte-lane helpers (spec/00_scope.md R12, spec/20_memory.md R101). -/
namespace Sys2Proof.Machine

/-- `sext_32`: sign extension of a word to 64 bits (R12). -/
def sext32 (w : Word) : Dword := w.signExtend 64

/-- `sext_16`: sign extension of a 16-bit immediate to 64 bits (R12). -/
def sext16 (h : Half) : Dword := h.signExtend 64

/-- `zext_16`: zero extension of a 16-bit immediate to 64 bits (R12). -/
def zext16 (h : Half) : Dword := h.zeroExtend 64

/-- `zext_32`: zero extension of a word to 64 bits (R12). -/
def zext32 (w : Word) : Dword := w.zeroExtend 64

/-- Bits 31:0 of a doubleword. -/
def low32 (d : Dword) : Word := d.truncate 32

/-- Bits 63:32 of a doubleword. -/
def high32 (d : Dword) : Word := d.extractLsb' 32 32

/-- The bits of `new` where `mask` has a 1, the bits of `old` elsewhere. -/
def merge {w : Nat} (mask old new : BitVec w) : BitVec w := (old &&& ~~~mask) ||| (new &&& mask)

/-- `v` with bit `i` made `b`. -/
def setBit {w : Nat} (v : BitVec w) (i : Nat) (b : Bool) : BitVec w :=
  merge (BitVec.twoPow w i) v (if b then BitVec.twoPow w i else 0)

/-- Four byte enables: bit n is set if byte lane n (bits 8n+7..8n) of a word takes part in an access. -/
abbrev Lanes := BitVec 4

/-- All four byte lanes: a word access. -/
def Lanes.word : Lanes := 0xF

/-- The 32-bit mask with ones in the byte lanes that take part. -/
def Lanes.mask (be : Lanes) : Word :=
  (if be.getLsbD 0 then 0x000000FF else 0) ||| (if be.getLsbD 1 then 0x0000FF00 else 0) |||
  (if be.getLsbD 2 then 0x00FF0000 else 0) ||| (if be.getLsbD 3 then 0xFF000000 else 0)

/-- The lanes of a naturally sized access: a byte, an aligned halfword, a word. -/
def Lanes.natural (be : Lanes) : Bool := [0x1, 0x2, 0x4, 0x8, 0x3, 0xC, 0xF].contains be.toNat

/-- A write of the lanes `be` of `v` to a register whose bits `wmask` are writable. -/
def writeBits (be : Lanes) (wmask old v : Word) : Word := merge (be.mask &&& wmask) old v

/-- The two low lanes of a word write, as a mask on a halfword register at bits 15:0. -/
def Lanes.lowHalf (be : Lanes) : Half := be.mask.extractLsb' 0 16

/-- The two high lanes of a word write, as a mask on a halfword register at bits 31:16. -/
def Lanes.highHalf (be : Lanes) : Half := be.mask.extractLsb' 16 16

/-- Byte `n` of a word. -/
def byteOf (n : Nat) (w : Word) : Byte := w.extractLsb' (8 * n) 8

end Sys2Proof.Machine
end

