-- ==== Sys2Proof/Machine/State.lean ====
section
/-! DEFINITION. The state of the µPD98502 as plain data: the VR4120A core (spec/10_state.md), the memories, every
on-chip device (spec/50_platform_syscon.md to spec/55_platform_uart_timer_microwire.md), the events that reach the chip
from outside, the reasons a step can stop, and the state after reset (rule R76, rule R1202). -/
namespace Sys2Proof.Machine

/-- How a device answers one access of the bus. -/
inductive BusStatus where
  /-- The access is performed. -/
  | ok
  /-- A reserved register address: the access error of R502 and its counterparts in the device files. -/
  | reserved
  /-- A size the register does not accept ("illegal bus size", R531). -/
  | badSize
deriving DecidableEq, Repr

/-- The answer of a device to an access: the device afterwards and, for a read, the word on the data lines; `none` is a
word the spec leaves open, at most `limit`. -/
structure DevReply (σ : Type) where
  /-- The device afterwards. -/
  dev : σ
  /-- The word read; `none` if the spec does not determine it. -/
  data : Option Word := some 0
  /-- The largest value an open word can have. -/
  limit : Nat := 0xFFFF_FFFF
  /-- Whether the access is legal. -/
  status : BusStatus := .ok
deriving DecidableEq, Repr

/-- The answer to an access whose size is legal only if `ok` (R502, R531): a reserved address answers as one whatever the
size. -/
def DevReply.sized {σ : Type} (ok : Bool) (r : DevReply σ) : DevReply σ :=
  match r.status with
  | .ok => if ok then r else { r with status := .badSize }
  | _ => r

/-! ### System controller (spec/50_platform_syscon.md) -/

/-- The registers of the system controller and the latches behind them (R501). -/
structure Syscon where
  /-- S_GMR (R503); CRST never reads 1. -/
  gmr : Word := 0
  /-- S_ISR (R521). -/
  isr : Word := 0
  /-- S_IMR (R522). -/
  imr : Word := 0
  /-- S_NSR (R531). -/
  nsr : Word := 0
  /-- S_NER (R532). -/
  ner : Word := 0
  /-- S_IOR: the output pins POM[7:0] (R509). -/
  ior : Word := 0
  /-- S_WRSR bits 5:0: the block is ready (R511). -/
  wrsr : Word := 0
  /-- S_PWCR (R512). -/
  pwcr : Word := 0
  /-- S_PWSR (R513). -/
  pwsr : Word := 0x0000_0020
  /-- ITCNTR (R535). -/
  itcntr : Word := 0
  /-- ITSETR (R536). -/
  itsetr : Word := 0x8000_0000
  /-- DSUCNTR (R560). -/
  dsucntr : Word := 0
  /-- DSUSETR (R561). -/
  dsusetr : Word := 0x8000_0000
  /-- The watchdog counter that DSUTIMR shows (R563, R564). -/
  dsutimr : Word := 0
  /-- RMMDR (R540). -/
  rmmdr : Word := 0
  /-- RMATR (R541). -/
  rmatr : Word := 0
  /-- SDMDR (R544). -/
  sdmdr : Word := 0x0000_0330
  /-- SDTSR (R545). -/
  sdtsr : Word := 0
  /-- SDPTR (R546). -/
  sdptr : Word := 0x0000_0142
  /-- SDRMR (R547). -/
  sdrmr : Word := 0x0000_0200
  /-- MBCR (R549). -/
  mbcr : Word := 0
  /-- Levels of the S_ISR sources when last sampled: bit 17 Ethernet #2, 16 PCI, 3 EXINT_B, 2 UART, and the
  S_PWSR wake-up bits in their own positions 13:8 (edge capture of R521, decision D20). -/
  sources : Word := 0
  /-- Level of the pin EXINT_B: true = asserted (R521). -/
  exint : Bool := false
  /-- Level of the pin EXNMI_B: true = asserted (R531). -/
  exnmi : Bool := false
  /-- Level of the pin UMINT_B, the interrupt of the PHY: true = asserted, low (R513, R620). -/
  umint : Bool := false
  /-- A write of S_GMR.CRST = 1 or the watchdog asked for a cold reset that the next step performs (R503, R564). -/
  resetRequest : Bool := false
deriving DecidableEq, Repr

/-! ### UART, timers, Micro Wire (spec/55_platform_uart_timer_microwire.md) -/

/-- A received character with its error flags (R990, R996). -/
structure RxChar where
  /-- The character. -/
  data : Byte
  /-- Parity error. -/
  pe : Bool := false
  /-- Framing error. -/
  fe : Bool := false
  /-- Break. -/
  bi : Bool := false
deriving DecidableEq, Repr

/-- The UART (R981–R996). -/
structure Uart where
  /-- UARTIER[3:0] (R984). -/
  ier : Byte := 0
  /-- UARTDLL (R985). -/
  dll : Byte := 0
  /-- UARTDLM (R985). -/
  dlm : Byte := 0
  /-- UARTFCR.UFIFOEN0: FIFO mode (R987). -/
  fifo : Bool := false
  /-- UARTFCR.FIFOMD, stored without effect (R987). -/
  fifomd : Bool := false
  /-- UARTFCR.URFTR (R987). -/
  trigger : BitVec 2 := 0
  /-- UARTLCR (R988). -/
  lcr : Byte := 0
  /-- UARTMCR, bits 4, 1 and 0 (R989). -/
  mcr : Byte := 0
  /-- UARTSCR (R992). -/
  scr : Byte := 0
  /-- UARTLSR.OE (R990). -/
  oe : Bool := false
  /-- Receive queue, oldest first (R996). -/
  rx : List RxChar := []
  /-- The character time-out cause (R986). -/
  rxTimeout : Bool := false
  /-- Transmit queue, oldest first (R996). -/
  tx : List Byte := []
  /-- The transmit shift register (R990 TEMT). -/
  shift : Option Byte := none
  /-- Characters that have left on URSDO, latest first (R996). -/
  sent : List Byte := []
  /-- `thre_interrupt_pending` (R986). -/
  thrPending : Bool := false
  /-- URCTS_B low (R991). -/
  cts : Bool := false
  /-- URDSR_B low (R991). -/
  dsr : Bool := false
  /-- URDCD_B low (R991). -/
  dcd : Bool := false
  /-- UARTMSR.DCTS (R991). -/
  dcts : Bool := false
  /-- UARTMSR.DDSR (R991). -/
  ddsr : Bool := false
  /-- UARTMSR.DDCD (R991). -/
  ddcd : Bool := false
deriving DecidableEq, Repr

/-- The two general-purpose timers (R1010–R1016). -/
structure Timers where
  /-- TMMR (R1011). -/
  tmmr : Word := 0
  /-- TM0CSR (R1012). -/
  csr0 : Word := 0
  /-- TM1CSR (R1012). -/
  csr1 : Word := 0
  /-- Counter of channel 0, read as TM0CCR (R1013). -/
  ccr0 : Word := 0xFFFF_FFFF
  /-- Counter of channel 1, read as TM1CCR (R1013). -/
  ccr1 : Word := 0xFFFF_FFFF
deriving DecidableEq, Repr

/-- A transfer of the Micro Wire block in progress (R1035, R1036). -/
inductive MicroWireOp where
  /-- The power-up load of the MAC address registers. -/
  | load
  /-- A command written to ECCR. -/
  | command (cmd : BitVec 3) (addr : BitVec 6) (data : Half)
deriving DecidableEq, Repr

/-- The Micro Wire block and the serial EEPROM behind it (R1030–R1037). -/
structure MicroWire where
  /-- ECCR, the command last written (R1031). -/
  eccr : Word := 0
  /-- ERDR.READ DATA (R1032). -/
  readData : Half := 0
  /-- The transfer in progress; ERDR.B = 1 while there is one (R1032). -/
  pending : Option MicroWireOp := some .load
  /-- MACAR1 (R1033). -/
  macar1 : Word := 0
  /-- MACAR2 (R1033). -/
  macar2 : Word := 0
  /-- MACAR3 (R1033). -/
  macar3 : Word := 0
  /-- The EEPROM's 64 words, or none where no EEPROM is connected (R1036). -/
  eeprom : Option (Vector Half 64) := none
  /-- The EEPROM accepts erase and write commands (R1034, R1036). -/
  writeEnabled : Bool := false
deriving DecidableEq, Repr

/-- The actions of the serial line and the modem pins (R996). -/
inductive UartEvent where
  /-- The head of the transmit queue moves into the shift register. -/
  | txStart
  /-- The character in the shift register has left on URSDO. -/
  | txDone
  /-- A character arrives. -/
  | receive (c : RxChar)
  /-- Four character times without a change of a non-empty receive FIFO. -/
  | timeout
  /-- New levels of the modem pins (true = pin low). -/
  | modem (cts dsr dcd : Bool)
deriving DecidableEq, Repr

/-- The blocks with a warm reset, power control or wake-up line, at their bit of S_WRCR and S_PWCR (R510, R512). -/
inductive Block where
  /-- USB controller (bit 0). -/
  | usb
  /-- Ethernet controller #1 (bit 1). -/
  | eth1
  /-- ATM cell processor (bit 2). -/
  | atm
  /-- Ethernet controller #2 (bit 3). -/
  | eth2
  /-- UART (bit 4; warm reset only). -/
  | uart
  /-- PCI controller (bit 5). -/
  | pci
deriving DecidableEq, Repr

/-- The events that reach the system controller from outside it (R509–R536). -/
inductive SysEvent where
  /-- A new level of the pin EXINT_B (true = asserted). -/
  | exint (asserted : Bool)
  /-- A new level of the pin EXNMI_B (true = asserted). -/
  | exnmi (asserted : Bool)
  /-- A block has finished its warm reset (S_WRSR, R511). -/
  | ready (b : Block)
  /-- A block reports itself idle or not (S_PWSR.xIDLE, R513). -/
  | idle (b : Block) (v : Bool)
  /-- A block raises or drops its wake-up request (S_PWSR.xWKUP, R513). -/
  | wakeup (b : Block) (v : Bool)
  /-- A new level of the pin UMINT_B (true = asserted), which S_PWSR.ATMWKUP shows (R513, R680). -/
  | umint (asserted : Bool)
  /-- An IBUS transfer has stalled for ITSETR clocks (R536). -/
  | ibusStall
deriving DecidableEq, Repr

/-! ### ATM cell processor (spec/51_platform_atm.md) -/

/-- A cell on the UTOPIA interface: five bytes of header and 48 bytes of payload (R651, R663). -/
structure AtmCell where
  /-- GFC, VPI/VCI, PTI and CLP from bit 31 down (R651). -/
  header : Word := 0
  /-- HEC, which the PHY handles (R651). -/
  hec : Byte := 0
  /-- The payload, first byte first. -/
  payload : List Byte := []
  /-- The number of the PHY that a sent cell goes to (R653). -/
  phy : BitVec 5 := 0
deriving DecidableEq, Repr

/-- A place in a list of buffers that the ATM block is working through. -/
structure AtmCursor where
  /-- The address of the next byte of the current buffer. -/
  addr : Word := 0
  /-- The bytes left in the current buffer. -/
  left : Nat := 0
  /-- The address of the entry behind the current buffer's descriptor; 0 before the first directory. -/
  next : Word := 0
  /-- The current buffer is the last one. -/
  last : Bool := false
deriving DecidableEq, Repr

/-- The registers of the ATM cell processor and the state of R681 behind them. -/
structure Atm where
  /-- A_GMR (R606). -/
  gmr : Word := 0
  /-- A_GSR (R607). -/
  gsr : Word := 0
  /-- A_IMR (R608). -/
  imr : Word := 0
  /-- A_RQU (R609). -/
  rqu : Word := 0
  /-- A_RQA (R609). -/
  rqa : Word := 0
  /-- A_CMR; bit 31 is BSY (R611). -/
  cmr : Word := 0
  /-- A_CER (R611). -/
  cer : Word := 0
  /-- A_MSA0–A_MSA3 (R613). -/
  msa : Vector Word 4 := Vector.replicate 4 0
  /-- A_MBA0–A_MBA3 (R613). -/
  mba : Vector Word 4 := Vector.replicate 4 0
  /-- A_MTA0–A_MTA3 (R613). -/
  mta : Vector Word 4 := Vector.replicate 4 0
  /-- A_MWA0–A_MWA3 (R613). -/
  mwa : Vector Word 4 := Vector.replicate 4 0
  /-- A_RCC (R614). -/
  rcc : Word := 0
  /-- A_TCC (R614). -/
  tcc : Word := 0
  /-- A_RUEC (R614). -/
  ruec : Word := 0
  /-- A_RIDC (R614). -/
  ridc : Word := 0
  /-- A_T1R (R615). -/
  t1r : Word := 0x0000_FFFF
  /-- A_TSR (R615). -/
  tsr : Word := 0
  /-- A_IBBAR (R616). -/
  ibbar : Word := 0
  /-- A_INBAR (R616). -/
  inbar : Word := 0
  /-- A_UMCMD (R617). -/
  umcmd : Word := 0
  /-- `atm_started`: A_INBAR has been written (R612, R681). -/
  started : Bool := false
  /-- The RISC core has fetched the first instructions of its firmware from system memory since it was started (R603, R612). -/
  loaded : Bool := false
  /-- The RISC core hangs: A_INBAR was written again (R612, U44). -/
  hung : Bool := false
  /-- Mailbox n is in the MF state (R670, U48). -/
  full : BitVec 4 := 0
  /-- Work RAM words by offset / 4, unlisted words read 0 (R603, R681). -/
  workRam : List (Nat × Word) := []
  /-- RXLCTR and the Rx lookup table, words by RISC-core address / 4, unlisted words 0 (R619). -/
  lookup : List (Nat × Word) := []
  /-- A_CER as it was when the pending command was written to A_CMR (R635). -/
  cerLatch : Word := 0
  /-- Set_Link_Rate: the link rate, A_CMR bits 15:0 (R636). -/
  linkRate : Half := 0
  /-- Set_Link_Rate: A_CMR bits 26:16, which hold the PHY number (R636, N39). -/
  linkPhy : BitVec 11 := 0
  /-- The blocks of the VC table pool that Open_Channel has given out; block n is VC number n + 1 (R637, R645). -/
  vcUsed : BitVec 64 := 0
  /-- The packet information tables in use, each with the address of its packet descriptor (R652, R655). -/
  infoUsed : Vector (Option Word) 64 := Vector.replicate 64 none
  /-- Buffer directories that Add_Buffers has put behind the chain of each pool, oldest first (R640). -/
  added : Vector (List Word) 8 := Vector.replicate 8 []
  /-- The T1 timer list: VC number and A_TSR at the first cell of the packet, in the order of linking (R660, R661). -/
  t1List : List (Nat × Word) := []
  /-- The bytes received of the packet on each VC, by block: CURRENT COUNT OF BYTES without its limit of 16 bits (R661, R664,
  R665). -/
  rxBytes : Vector Nat 64 := Vector.replicate 64 0
  /-- The directory entry behind the current receive buffer of each VC, by block; 0 before the first directory (R631). -/
  rxNext : Vector Word 64 := Vector.replicate 64 0
  /-- Where the next raw cell data of each pool go (R662). -/
  raw : Vector AtmCursor 8 := Vector.replicate 8 {}
  /-- Cells sent at the UTOPIA interface, latest first: the block's output. -/
  sent : List AtmCell := []
  /-- The transmit SAR FIFO, oldest cell first: at most four (R601, R650). -/
  txFifo : List AtmCell := []
  /-- The receive SAR FIFO, oldest cell first: at most four (R601, R660). -/
  rxFifo : List AtmCell := []
  /-- The writes to system memory of the last action that have not been made yet, transfer by transfer (R681). -/
  stores : List (List Host.Cell) := []
  /-- The bits of A_GSR that the last action sets once its writes have been made (R165, R681). -/
  gsrAfter : Word := 0
  /-- The mailbox and the A_MWAn of its indication, once the writes of the last action have been made (R670, R681). -/
  mwaAfter : Option (Fin 4 × Word) := none
  /-- What the firmware has read from system memory for its next action, the latest first: bytes by address, none for an IBUS bus
  error (R165, R681). -/
  ahead : List (Nat × Option Byte) := []
deriving DecidableEq, Repr

/-- The actions of the environment agent "ATM firmware" (R681) and, with `depart` and `arrive`, of the UTOPIA interface (R602). As long
as an action lacks data of system memory, its event reads the next of them instead, in one transfer (R165); it happens with the event
that finds them all read. -/
inductive AtmEvent where
  /-- Fetch `words` words of the firmware, from `offset` of the instruction space on: one transfer on the IBUS (R165, R603, R612). -/
  | fetch (offset : BitVec 20) (words : Nat)
  /-- Make the next write to system memory that the last action has left: up to `words` words of one transfer (R165, R681). -/
  | transfer (words : Nat)
  /-- Execute the pending command (R635–R641): `fill` gives the bits of the result that are undefined, `block` the block
  of the VC table pool that Open_Channel prefers. -/
  | command (fill : Word) (block : Fin 64)
  /-- Put the next cell of VC number `vc` into the transmit SAR FIFO (R650–R657). -/
  | cellOut (vc : BitVec 12)
  /-- A PHY is ready for a cell of the transmit SAR FIFO (R602 b); in loopback the oldest cell comes back, with the HEC `hec` (R606). -/
  | depart (phy : BitVec 5) (hec : Byte)
  /-- A cell comes in at the UTOPIA interface (R602 c). -/
  | arrive (cell : AtmCell)
  /-- Take the oldest cell of the receive SAR FIFO (R660–R665); `stamp` is the internal time stamp field of the VC table. -/
  | cellIn (stamp : Half)
  /-- The T1 time of a packet on VC number `vc` has passed (R665). -/
  | timeout (vc : BitVec 12)
  /-- A received cell is discarded inside the block: A_RIDC (R614). -/
  | discard
  /-- Set PI, SQO or FER of A_GSR (R607). -/
  | status (bits : Word)
deriving DecidableEq, Repr

/-! ### Ethernet controllers (spec/52_platform_ethernet.md) -/

/-- A management access in progress on the MII management interface (R771). -/
inductive MiiOp where
  /-- A read cycle started by En_MCMD.RSTAT or, with `scan`, by the scan command. -/
  | read (scan : Bool)
  /-- A write cycle started by a write of En_MWTD. -/
  | write
deriving DecidableEq, Repr

/-- A data buffer that the DMA of a block is working on. -/
structure DmaBuffer where
  /-- The address of its descriptor. -/
  desc : Word
  /-- Word 0 of its descriptor, as the block has read it. -/
  word : Word
  /-- The address of the next byte. -/
  addr : Word
  /-- The bytes left in it. -/
  left : Nat
  /-- OWN, or the new size, stands in its descriptor (R751, R752). -/
  marked : Bool := false
  /-- The descriptor pointer has moved on behind its descriptor (R762 vi, R766 vi). -/
  passed : Bool := false
deriving DecidableEq, Repr

/-- What the wire side tells of a received frame besides its bytes (R706, R752). -/
structure EthWireStatus where
  /-- MIRER was signalled: a code error. -/
  rxError : Bool := false
  /-- A false carrier. -/
  falseCarrier : Bool := false
  /-- A dribble nibble. -/
  dribble : Bool := false
  /-- An alignment error. -/
  alignment : Bool := false
deriving DecidableEq, Repr

/-- What the wire side tells of a transmission (R706, R751). -/
structure EthSendStatus where
  /-- Carrier sense was lost: CSE. -/
  carrierLost : Bool := false
  /-- A late collision: LCOL. -/
  lateCollision : Bool := false
  /-- Excessive deferral: EDFR. -/
  excessDeferral : Bool := false
  /-- The transmission was deferred. -/
  deferred : Bool := false
  /-- A MAC internal error. -/
  macError : Bool := false
  /-- The number of collisions. -/
  collisions : BitVec 5 := 0
  /-- En_TXDPR after an abort, which is not stated (R763). -/
  pointer : Word := 0
deriving DecidableEq, Repr

/-- A frame on its way from the wire through the receive FIFO to memory (R765). -/
structure EthRxFrame where
  /-- The bytes in the FIFO. -/
  fifo : List Byte := []
  /-- The bytes that the wire has still to bring. -/
  wire : List Byte
  /-- How many bytes have arrived. -/
  arrived : Nat := 0
  /-- The status bits of its last descriptor (R752). -/
  status : Word
  /-- What the frame counts once it has ended (R727). -/
  counts : List (Fin 48 × Word) := []
  /-- Bytes of it stand in a data buffer (R766). -/
  stored : Bool := false
deriving DecidableEq, Repr

/-- The registers of one Ethernet controller block, its MII state and the progress of its DMA (R705, R781). -/
structure Eth where
  /-- En_MACC1 (R708). -/
  macc1 : Word := 0
  /-- En_MACC2 (R709). -/
  macc2 : Word := 0
  /-- En_IPGT (R710). -/
  ipgt : Word := 0x0000_0013
  /-- En_IPGR (R711). -/
  ipgr : Word := 0x0000_0E13
  /-- En_CLRT (R712). -/
  clrt : Word := 0x0000_380F
  /-- En_LMAX (R713). -/
  lmax : Word := 0x0000_0600
  /-- En_LSA2 (R714). -/
  lsa2 : Word := 0
  /-- En_LSA1 (R714). -/
  lsa1 : Word := 0
  /-- En_VLTP (R716). -/
  vltp : Word := 0
  /-- En_MIIC (R717). -/
  miic : Word := 0
  /-- En_MADR (R719). -/
  madr : Word := 0
  /-- En_MWTD (R720). -/
  mwtd : Word := 0
  /-- En_MRDD (R720). -/
  mrdd : Word := 0
  /-- The management access in progress; En_MIND.BUSY = 1 while there is one (R721). -/
  mii : Option MiiOp := none
  /-- En_MIND.SCANA (R721). -/
  scan : Bool := false
  /-- En_MIND.NVALID (R721). -/
  nvalid : Bool := false
  /-- En_AFR (R722). -/
  afr : Word := 0
  /-- En_HT1 (R723). -/
  ht1 : Word := 0
  /-- En_HT2 (R723). -/
  ht2 : Word := 0
  /-- En_CAR1 (R724). -/
  car1 : Word := 0
  /-- En_CAR2 (R725). -/
  car2 : Word := 0
  /-- En_CAM1 (R726). -/
  cam1 : Word := 0
  /-- En_CAM2 (R726). -/
  cam2 : Word := 0
  /-- The statistics counters at +140H + 4·i; entries 23 to 31 are no registers (R706, R727). -/
  counters : Vector Word 48 := Vector.replicate 48 0
  /-- En_TXCR (R728). -/
  txcr : Word := 0
  /-- En_TXFCR (R729). -/
  txfcr : Word := 0xFFFF_40C0
  /-- En_TXDPR (R730). -/
  txdpr : Word := 0
  /-- En_RXCR (R731). -/
  rxcr : Word := 0
  /-- En_RXFCR (R732). -/
  rxfcr : Word := 0xC040_0040
  /-- En_RXDPR (R733). -/
  rxdpr : Word := 0
  /-- En_RXPDR (R734). -/
  rxpdr : Word := 0
  /-- En_CCR (R735). -/
  ccr : Word := 0
  /-- En_ISR (R736). -/
  isr : Word := 0
  /-- En_MSR (R737). -/
  msr : Word := 0
  /-- The transmitter waits for a write of En_TXDPR: the list ended or a frame was aborted (R762, R763). -/
  txHalted : Bool := false
  /-- The data buffer that the transmit DMA reads, or has read last of the frame being sent (R762). -/
  txBuf : Option DmaBuffer := none
  /-- The bytes of the frame being sent that the DMA has read (R761). -/
  txData : List Byte := []
  /-- How many of them have left the transmit FIFO for the wire (R729, R761). -/
  txOut : Nat := 0
  /-- A data buffer of the frame being sent could not be read: DBRE (R751). -/
  txReadError : Bool := false
  /-- The FIFO has run below TX_DRTH before the DMA had delivered the end of the frame being sent: TUDR (R729, R763). -/
  txUnderran : Bool := false
  /-- The frame being sent has been aborted: the status for its last descriptor, which the DMA has still to reach, and what
  En_TXDPR holds then (R763). -/
  txAbort : Option (Word × Word) := none
  /-- The frames in the receive FIFO, oldest first; the last one may still be arriving (R765, R766). -/
  rxFifo : List EthRxFrame := []
  /-- The data buffer that the receive DMA fills (R766). -/
  rxBuf : Option DmaBuffer := none
  /-- The first descriptor may be read before any frame has come (R766 iii). -/
  rxArmed : Bool := false
  /-- Counts that the statistics counters have not taken yet, oldest first (R727). -/
  counts : List (Fin 48 × Word) := []
  /-- The frames sent, latest first: the block's output (R781). -/
  sent : List (List Byte) := []
deriving DecidableEq, Repr

/-- The actions of the environment agent "Ethernet MAC/DMA n" (R781). -/
inductive EthEvent where
  /-- One step of the transmit DMA: fetch the entry at En_TXDPR, read a burst of up to `words` words of the buffer, set OWN, or
  move on (R762). -/
  | txDma (words : Nat)
  /-- The MAC takes up to `n` bytes from the transmit FIFO (R729, R761). -/
  | txDrain (n : Nat)
  /-- The transmission of the frame has ended (R751, R762, R763). -/
  | txDone (w : EthSendStatus)
  /-- A frame begins to arrive, without preamble and SFD (R765, R768). -/
  | rxArrive (bytes : List Byte) (w : EthWireStatus)
  /-- The next `n` bytes of the arriving frame reach the receive FIFO (R765, R782). -/
  | rxFill (n : Nat)
  /-- One step of the receive DMA: take a descriptor, store a burst of up to `words` words, set OWN, move on, or end the frame
  (R766); `size` is what SIZE holds in a descriptor that is not the frame's last. -/
  | rxDma (words : Nat) (size : Half)
  /-- The statistics counters take the oldest count that is due (R727). -/
  | count
  /-- A status vector overrun (R725 C2DV). -/
  | vectorOverrun
  /-- The management access in progress ends, with the word read (R771). -/
  | miiDone (data : Half)
deriving DecidableEq, Repr

/-! ### USB controller (spec/53_platform_usb.md) -/

/-- What the wire side tells of a received packet besides its bytes (R857). -/
structure UsbWireStatus where
  /-- A SETUP packet, on EP0 only. -/
  setup : Bool := false
  /-- A CRC error. -/
  crc : Bool := false
  /-- A bit-stuffing error. -/
  stuff : Bool := false
deriving DecidableEq, Repr

/-- A packet on its way from the wire through the receive FIFO to memory, or the loss of one (R850–R856). -/
structure UsbPacket where
  /-- The receive side it belongs to: EP0, EP2, EP4, EP6. -/
  slot : Fin 4
  /-- The bytes in the FIFO. -/
  fifo : List Byte := []
  /-- The bytes that the wire has still to bring. -/
  wire : List Byte := []
  /-- How many bytes have arrived. -/
  arrived : Nat := 0
  /-- Dummy bytes by which the buffer pointer still advances (R855, R856). -/
  skip : Nat := 0
  /-- It ends the segment: shorter than MAXP, or of no bytes (R845, R851). -/
  short : Bool := false
  /-- Report at the end of this packet without ending the segment (R855, R856). -/
  report : Bool := false
  /-- Its status bits in the Rx indication (R857). -/
  status : Word := 0
deriving DecidableEq, Repr

/-- The receive side of one endpoint: the buffer being filled, and the segment (R850–R852). -/
structure UsbRx where
  /-- The buffer being filled. -/
  buf : Option DmaBuffer := none
  /-- The first descriptor of the segment. -/
  first : Option Word := none
  /-- The bytes received since the last indication. -/
  size : Nat := 0
  /-- Status bits of the next indication: loss, IBUS error, SETUP, overrun, CRC, bit stuffing (R857). -/
  status : Word := 0
deriving DecidableEq, Repr

/-- The transmit side of one endpoint: the progress of the segment at the head of its queue (R839). -/
structure UsbTx where
  /-- The entry of the directory that is fetched next; none before the first packet of the segment. -/
  entry : Option Word := none
  /-- The address of the next byte. -/
  addr : Word := 0
  /-- The bytes left in the current buffer. -/
  left : Nat := 0
  /-- The Tx FIFO of the endpoint: bytes of the segment that have been read and have not left. -/
  fifo : List Byte := []
  /-- The bytes of the packet being sent that have left the FIFO. -/
  out : List Byte := []
  /-- The bytes of the segment in the packets that have been sent. -/
  done : Nat := 0
  /-- The segment has ended and waits for its Tx indication. -/
  ended : Bool := false
  /-- Status bits of the Tx indication: IBUS error, underrun (R840). -/
  status : Word := 0
deriving DecidableEq, Repr

/-- The registers of the USB controller and the state of R881 behind them. -/
structure Usb where
  /-- U_GMR (R806). -/
  gmr : Word := 0x0000_1800
  /-- U_VER.UFNR, the frame number (R807). -/
  ufnr : BitVec 11 := 0
  /-- U_GSR1; GSR2 is set here when its condition ends before a read (R808, R812). -/
  gsr1 : Word := 0
  /-- U_IMR1 (R809). -/
  imr1 : Word := 0
  /-- U_GSR2 (R810). -/
  gsr2 : Word := 0
  /-- U_IMR2 (R811). -/
  imr2 : Word := 0
  /-- U_EP0CR–U_EP6CR (R813–R819). -/
  epcr : Vector Word 7 := Vector.replicate 7 0
  /-- U_CMR; bit 31 is B (R820). -/
  cmr : Word := 0
  /-- U_CA (R821). -/
  ca : Word := 0
  /-- Scheduled segments (directory address, size) of EP0, EP1, EP3 and EP5, oldest first; U_TEPSR shows how many
  (R822, R881). -/
  txQueue : Vector (List (Word × Half)) 4 := Vector.replicate 4 []
  /-- U_RP0IR–U_RP2IR (R823). -/
  rpir : Vector Word 3 := Vector.replicate 3 0
  /-- U_RP0AR–U_RP2AR (R824). -/
  rpar : Vector Word 3 := Vector.replicate 3 0
  /-- U_TMSA (R825). -/
  tmsa : Word := 0
  /-- U_TMBA (R825). -/
  tmba : Word := 0
  /-- U_TMRA (R825). -/
  tmra : Word := 0
  /-- U_TMWA (R825). -/
  tmwa : Word := 0
  /-- U_RMSA (R825). -/
  rmsa : Word := 0
  /-- U_RMBA (R825). -/
  rmba : Word := 0
  /-- U_RMRA (R825). -/
  rmra : Word := 0
  /-- U_RMWA (R825). -/
  rmwa : Word := 0
  /-- `tmsa_written`: U_TMSA has been written since reset (R825). -/
  tmsaWritten : Bool := false
  /-- `rmsa_written` (R825). -/
  rmsaWritten : Bool := false
  /-- The Tx mailbox is full (R830, U54). -/
  tmFull : Bool := false
  /-- The Rx mailbox is full (R830, U54). -/
  rmFull : Bool := false
  /-- `usb_suspended` (R871). -/
  suspended : Bool := false
  /-- A remote wake-up signal has been sent while the USB was suspended (R870, R871). -/
  waking : Bool := false
  /-- The entry of the current directory of each pool that the controller fetches next (R850). -/
  rxEntry : Vector Word 3 := Vector.replicate 3 0
  /-- The packets in the shared receive FIFO, oldest first; the last one may still be arriving (R801). -/
  rxFifo : List UsbPacket := []
  /-- The receive side of EP0, EP2, EP4 and EP6 (R850–R852). -/
  rx : Vector UsbRx 4 := Vector.replicate 4 {}
  /-- The transmit side of EP0, EP1, EP3 and EP5 (R839). -/
  tx : Vector UsbTx 4 := Vector.replicate 4 {}
  /-- The packets sent on the transmit endpoints, latest first: the block's output (R835). -/
  sent : Vector (List (List Byte)) 4 := Vector.replicate 4 []
  /-- Loopback: the packets that wait for EP0, EP2, EP4 and EP6, oldest first (R865). -/
  looped : Vector (List (List Byte)) 4 := Vector.replicate 4 []
deriving DecidableEq, Repr

/-- An SOF packet, its absence, or one too many (R861). -/
inductive SofCase where
  /-- An SOF packet without a bit error, with its frame number. -/
  | received (n : BitVec 11)
  /-- No SOF in the frame period. -/
  | loss
  /-- An extra SOF. -/
  | extra
  /-- An SOF packet with a bit-stuffing or a CRC error, with the number received. -/
  | corrupt (n : BitVec 11)
deriving DecidableEq, Repr

/-- What the host does that the controller reports as a status bit only (R810, R853, R854). -/
inductive UsbNotice where
  /-- A USB reset signal: URST. -/
  | busReset
  /-- A token with an illegal endpoint number: IEA. -/
  | illegalEndpoint
  /-- A data packet for EP2 beyond the maximum packet size: EP2OS. -/
  | oversize
  /-- An extra data packet on EP2: EP2ED. -/
  | extraData
  /-- No IN token for EP1 in a frame: EP1NT. -/
  | noToken
  /-- Two or more IN tokens for EP1 in a frame: EP1ET. -/
  | extraToken
  /-- An IN token for EP1 with no packet to send: EP1ND. -/
  | noData
deriving DecidableEq, Repr

/-- The actions of the environment agent "USB host and DMA" (R881). -/
inductive UsbEvent where
  /-- Execute the pending command, if it can be executed (R839, R847). -/
  | execute
  /-- One step of the transmit DMA of endpoint `q` (0, 1, 3, 5 in this order): fetch an entry of the directory, read a burst of
  up to `words` words, or report; `fill` gives the reserved bits of the Tx indication (R839, R840). -/
  | txDma (q : Fin 4) (words : Nat) (fill : Word)
  /-- Up to `n` bytes of the packet that the host takes leave the FIFO of transmit endpoint `q` (R839 step 9). -/
  | txBytes (q : Fin 4) (n : Nat)
  /-- The packet that the host takes from transmit endpoint `q` ends (R835); `underrun`: before its end has been read, on EP1. -/
  | txPacket (q : Fin 4) (underrun : Bool)
  /-- A packet begins to arrive on the receive endpoint `q` (0, 2, 4, 6 in this order) (R850–R852). -/
  | rxPacket (q : Fin 4) (bytes : List Byte) (w : UsbWireStatus)
  /-- The next `n` bytes of the arriving packet reach the receive FIFO (R801, R856). -/
  | rxBytes (n : Nat)
  /-- In loopback the next packet sent comes back on the receive endpoint `q` (R865). -/
  | loopback (q : Fin 4)
  /-- A frame passes without a packet on EP2 (R855); `early` says when the loss is reported in assemble mode. -/
  | isoLost (early : Bool)
  /-- One step of the receive DMA for the packet at the head of the FIFO: fetch an entry of the pool, store a burst of up to
  `words` words, update a descriptor, or report (R850–R852, R857); `first` chooses the descriptor that the indication names,
  `fill` gives its reserved bits. -/
  | rxDma (words : Nat) (first : Bool) (fill : Word)
  /-- The host does what a status bit reports (R810). -/
  | notice (n : UsbNotice)
  /-- An SOF packet, or its absence (R860, R861). -/
  | sof (c : SofCase)
  /-- The remote resume signal has been sent for 5 ms: RR returns to 0 (R806). -/
  | resumeSent
  /-- The bus goes into the suspend state (R870). -/
  | suspend
  /-- The bus resumes on the host's signal (R870). -/
  | resume
  /-- A remote wake-up has ended (R870, R871). -/
  | wakeupEnded
deriving DecidableEq, Repr

/-! ### PCI controller (spec/54_platform_pci.md) -/

/-- What the PCI bus answers to one read that the controller issues (R949, R958, R959, R976). -/
inductive PciReply where
  /-- A target delivered this word; `parity` if a data parity error was detected (R957 c). -/
  | word (w : Word) (parity : Bool)
  /-- No target claimed the address (R958). -/
  | masterAbort
  /-- The target ended the transaction by target abort (R958). -/
  | targetAbort
  /-- The retry timer ran out and the controller gave up (R959). -/
  | gaveUp
deriving DecidableEq, Repr

/-- A command on the PCI bus (R946, R952). -/
inductive PciCommand where
  /-- Memory Read. -/
  | memRead
  /-- Memory Read Line. -/
  | memReadLine
  /-- Memory Read Multiple. -/
  | memReadMultiple
  /-- Memory Write. -/
  | memWrite
  /-- Memory Write and Invalidate. -/
  | memWriteInvalidate
  /-- Configuration Read. -/
  | configRead
  /-- Configuration Write. -/
  | configWrite
deriving DecidableEq, Repr

/-- An access that the controller issues on the PCI bus as master (R945–R950, R965). -/
structure PciAccess where
  /-- The command. -/
  command : PciCommand
  /-- AD[31:0] in the address phase. -/
  addr : Word
  /-- The byte enables, word by word. -/
  lanes : List Lanes
  /-- The words written, the first one first. -/
  data : List Word := []
deriving DecidableEq, Repr

/-- The data of a delayed read towards the PCI bus, which wait in the FIFO for the block to repeat the read (R949). -/
structure PciReadAhead where
  /-- The internal address of the read. -/
  addr : Nat
  /-- Its number of bytes, by which its command is chosen (R946). -/
  bytes : Nat
  /-- The words that the PCI bus has answered: the first 16 of the read, or all. -/
  data : List Word
deriving DecidableEq, Repr

/-- The registers of the PCI controller, its configuration space, and the inputs of its PCI side.
Every register resets to 0 unless a default says otherwise (R904, R930). -/
structure Pci where
  /-- P_PLBA (R905). -/
  plba : Word := 0
  /-- P_IBBA (R906). -/
  ibba : Word := 0
  /-- P_PCAR (R908). -/
  pcar : Word := 0
  /-- P_PCDR (R909). -/
  pcdr : Word := 0
  /-- P_IGSR, the latched events (R910). -/
  igsr : Word := 0
  /-- P_IIMR (R911). -/
  iimr : Word := 0
  /-- P_PGSR (R912). -/
  pgsr : Word := 0
  /-- P_PIMR (R913). -/
  pimr : Word := 0
  /-- P_HMCR (R914). -/
  hmcr : Word := 0
  /-- P_PWCD (R915). -/
  pwcd : Word := 0
  /-- P_PWDD (R916). -/
  pwdd : Word := 0
  /-- P_BCNT (R917). -/
  bcnt : Word := 0
  /-- P_PPCR without the write-only PMERQ (R918). -/
  ppcr : Word := 0
  /-- P_RTMR (R920). -/
  rtmr : Word := 0
  /-- Command register of the configuration space (R932). -/
  command : Half := 0
  /-- Status register: its write-1-to-clear bits only (R933). -/
  status : Half := 0
  /-- Cache line size (R935). -/
  cacheLine : Byte := 0
  /-- Latency timer (R936). -/
  latency : Byte := 0
  /-- Window memory base address (R937). -/
  windowBase : Word := 0
  /-- Register memory base address (R938). -/
  regBase : Word := 0
  /-- Subsystem vendor ID (R939). -/
  subVendor : Half := 0
  /-- Subsystem ID (R939). -/
  subId : Half := 0
  /-- Interrupt line (R940). -/
  intLine : Byte := 0
  /-- Min_Gnt (R940). -/
  minGnt : Byte := 0
  /-- Max_Lat (R940). -/
  maxLat : Byte := 0
  /-- PMC: its writable bits only (R941). -/
  pmc : Half := 0
  /-- PMCSR without the fixed Data_Scale (R942). -/
  pmcsr : Half := 0
  /-- Level of the pin PHINT_B (R902, R927): true = asserted. -/
  phintPin : Bool := false
  /-- The level of PHINT_B as the block sees it: while its clock is stopped it does not follow the pin (R1203). -/
  phint : Bool := false
  /-- Answers of the PCI bus to the next reads that the controller issues, word by word, oldest first; with none, no device is
  attached (R949, R976). -/
  replies : List PciReply := []
  /-- How many writes the controller has issued that have not ended on the PCI bus yet (R947, R976). -/
  openWrites : Nat := 0
  /-- The accesses issued on the PCI bus as master, latest first: the block's output (R945, R965). -/
  issued : List PciAccess := []
  /-- The FIFO towards the internal bus: the delayed read of a bus master that waits to be repeated (R949). -/
  readAhead : Option PciReadAhead := none
  /-- The FIFO towards the PCI bus holds the data prefetched for this delayed read of a PCI master, told by its address in the window
  and its command, until it is repeated (R955). -/
  prefetched : Option (BitVec 22 × PciCommand) := none
deriving DecidableEq, Repr

/-- How a write that the controller has issued ends on the PCI bus (R947, R957, R958, R959). -/
inductive PciWriteEnd where
  /-- The target has taken the data; `parity` if it reports a data parity error (R957 c). -/
  | done (parity : Bool)
  /-- No target claimed the address (R958). -/
  | masterAbort
  /-- The target ended the transaction by target abort (R958). -/
  | targetAbort
  /-- The retry timer ran out and the controller gave up (R959). -/
  | gaveUp
deriving DecidableEq, Repr

/-- The actions of the environment agent "PCI bus" on the block itself (R976). -/
inductive PciEvent where
  /-- Queue the answer to a coming read (R949, R965). -/
  | reply (r : PciReply)
  /-- The level of the pin PHINT_B, host mode (R927). -/
  | phint (asserted : Bool)
  /-- A falling edge of PSERI_B, host mode (R927). -/
  | serr
  /-- The oldest write that the controller has issued and that has not ended yet ends (R947, R957, R958, R959). -/
  | writeEnd (how : PciWriteEnd)
  /-- The delayed-read data towards the internal bus have waited too long and are discarded: PFDSC (R949). -/
  | readDiscarded
  /-- The prefetched data towards the PCI bus have waited too long and are discarded: IFDSC (R955). -/
  | prefetchDiscarded
  /-- Address parity error as target (R957 a). -/
  | addressParity
  /-- Data parity error as target (R957 b). -/
  | targetParity
  /-- Internal bus error on an access of a PCI master (R953–R956, R960). -/
  | busError (write : Bool)
  /-- The PCI side reads a register of the block (R904, R912). -/
  | hostRead (off : Nat)
  /-- The PCI side writes a register of the block; `side` resolves U64. -/
  | hostWrite (off : Nat) (be : Lanes) (v : Word) (side : Bool)
deriving DecidableEq, Repr

/-! ### The VR4120A core (spec/10_state.md) -/

/-- One page of a TLB entry (R67, R68). -/
structure TlbPage where
  /-- Page frame number: physical address bits 31:10. -/
  pfn : BitVec 22 := 0
  /-- Cache attribute: 010 = uncached (R121). -/
  c : BitVec 3 := 0
  /-- Dirty: the page is writable. -/
  d : Bool := false
  /-- Valid. -/
  v : Bool := false
deriving DecidableEq, Repr

/-- A TLB entry: a pair of pages (R67, R68, R434). -/
structure TlbEntry where
  /-- MASK, lined up with virtual address bits 18:11. -/
  mask : Byte := 0
  /-- Region: virtual address bits 63:62. -/
  r : BitVec 2 := 0
  /-- VPN2: virtual address bits 39:11. -/
  vpn2 : BitVec 29 := 0
  /-- Global. -/
  g : Bool := false
  /-- Address space identifier. -/
  asid : Byte := 0
  /-- The even page. -/
  page0 : TlbPage := {}
  /-- The odd page. -/
  page1 : TlbPage := {}
deriving DecidableEq, Repr

/-- A line of the instruction cache (R70). -/
structure ILine where
  /-- The 16 bytes, the lowest address in bits 7:0. -/
  data : BitVec 128 := 0
  /-- PTag: physical address bits 31:10. -/
  ptag : BitVec 22 := 0
  /-- Valid. -/
  v : Bool := false
deriving DecidableEq, Repr

/-- A line of the data cache (R70). -/
structure DLine where
  /-- The 16 bytes, the lowest address in bits 7:0. -/
  data : BitVec 128 := 0
  /-- PTag: physical address bits 31:10. -/
  ptag : BitVec 22 := 0
  /-- Valid. -/
  v : Bool := false
  /-- The D bit of the tag, without function. -/
  d : Bool := false
  /-- Write-back bit: the line is dirty. -/
  w : Bool := false
deriving DecidableEq, Repr

/-- The registers of coprocessor 0 (R28–R64). PRId, WatchHi, CacheErr and TagHi are constants and hold nothing; the
reserved bits of a register read 0. -/
structure Cp0 where
  /-- Index (0, R30). -/
  index : Word := 0
  /-- Random (1, R31). -/
  random : BitVec 5 := 31
  /-- EntryLo0 (2, R32). -/
  entryLo0 : Dword := 0
  /-- EntryLo1 (3, R32). -/
  entryLo1 : Dword := 0
  /-- Context (4, R33). -/
  context : Dword := 0
  /-- PageMask (5, R34). -/
  pageMask : Word := 0
  /-- Wired (6, R35). -/
  wired : BitVec 5 := 0
  /-- BadVAddr (8, R36). -/
  badVAddr : Dword := 0
  /-- Count (9, R37). -/
  count : Word := 0
  /-- EntryHi (10, R38). -/
  entryHi : Dword := 0
  /-- Compare (11, R39). -/
  compare : Word := 0
  /-- Status (12, R40–R46) without TS, which `tlbShutdown` holds. -/
  status : Word := 0x0040_0004
  /-- Cause (13, R47) without IP6:IP2, which follow the interrupt lines. -/
  cause : Word := 0
  /-- EPC (14, R49). -/
  epc : Dword := 0
  /-- Config (16, R51): the writable fields EP, AD, IB and K0. -/
  config : Word := 0
  /-- LLAddr (17, R52). -/
  llAddr : Word := 0
  /-- WatchLo (18, R53). -/
  watchLo : Word := 0
  /-- XContext (20, R54). -/
  xcontext : Dword := 0
  /-- PErr (26, R58). -/
  perr : Word := 0
  /-- TagLo (28, R60). -/
  tagLo : Word := 0
  /-- ErrorEPC (30, R62). -/
  errorEpc : Dword := 0
deriving DecidableEq, Repr

/-- Where the instruction at the program counter stands (R75, R360). -/
inductive Slot where
  /-- Not in a branch delay slot. -/
  | normal
  /-- In the delay slot of a jump or branch: with the pending target, or with none if the branch is not taken. -/
  | delay (target : Option Dword)
deriving DecidableEq, Repr

/-- The power mode of the core (R73). -/
inductive PowerMode where
  /-- Instructions execute. -/
  | fullspeed
  /-- Stopped by STANDBY (R460). -/
  | standby
  /-- Stopped by SUSPEND (R461). -/
  | suspend
  /-- Stopped by HIBERNATE: only a cold reset leaves this mode (R462). -/
  | hibernate
deriving DecidableEq, Repr

/-- What the board and the chip fix for a run: the parameters of R8 and R9. No step changes them. -/
structure Board where
  /-- PRId.Rev (R50, D2). -/
  pridRev : Byte := 0
  /-- Config.EC (R51, R63, D10). -/
  configEc : BitVec 3 := 7
  /-- Pipeline cycles per Count increment (R37, D9); 0 stands for 1. -/
  countDiv : Nat := 1
  /-- Pin ENDCEN (R506). -/
  endcen : Bool := false
  /-- Pin CLKSL (R506). -/
  clksl : Bool := false
  /-- Pins RMSL[1:0]: 10 = 8-bit, 01 = 16-bit, 00 = 32-bit boot ROM (R542). -/
  rmsl : BitVec 2 := 0
  /-- SDRAM_SIZE: the bytes of SDRAM on the board, at most 32 Mbytes (R9, D1). -/
  sdramSize : Nat := 0x0200_0000
  /-- ROM_SIZE: the bytes of boot ROM on the board, at most 8 Mbytes (R9, D1). -/
  romSize : Nat := 0x0080_0000
  /-- Pin PMODE: the PCI controller is in NIC mode (R900). -/
  nic : Bool := false
  /-- Pin PARBEN: the PCI arbiter is enabled (R900). -/
  parben : Bool := false
deriving DecidableEq, Repr

/-- What reaches the chip from outside the core between two instructions (R1117, D4, D6). -/
inductive Event where
  /-- RSTB_B goes active: a cold reset (R1200). -/
  | reset
  /-- The system controller's pins and wires (R511–R513, R521, R531). -/
  | sys (e : SysEvent)
  /-- The serial line (R996). -/
  | uart (e : UartEvent)
  /-- The Micro Wire transfer in progress ends (R1036). -/
  | microWire
  /-- The USB host and DMA (R881). -/
  | usb (e : UsbEvent)
  /-- Ethernet #1 (R781). -/
  | eth1 (e : EthEvent)
  /-- Ethernet #2 (R781). -/
  | eth2 (e : EthEvent)
  /-- The ATM firmware (R681). -/
  | atm (e : AtmEvent)
  /-- The PCI bus on the PCI controller (R976). -/
  | pci (e : PciEvent)
  /-- A PCI master reads through the access window at `off`, with Memory Read, Read Line or Read Multiple (R951, R955, R956); where it
  repeats a delayed read, it is given the data. -/
  | pciMasterRead (off : BitVec 22) (be : Lanes) (command : PciCommand)
  /-- A PCI master writes through the access window at `off` (R951, R953, R954). -/
  | pciMasterWrite (off : BitVec 22) (be : Lanes) (v : Word)
deriving DecidableEq, Repr

/-! ### The reasons a step can stop -/

/-- Behaviours of the core that the spec calls undefined and gives no effect. Each is raised by the operation its
docstring names. All are safe: the hardware goes on in some way the model does not follow. -/
inductive Fault where
  /-- A jump, branch or ERET in a branch delay slot (R361, U32); raised by the jumps, branches and ERET. Safe. -/
  | jumpInDelaySlot
  /-- Status.KSU = 11 with EXL = ERL = 0 (R45, U13); raised by `step`. Safe. -/
  | undefinedMode
  /-- Config.EP, AD or IB holds a prohibited value (R51, U14); raised by `step`. Safe. -/
  | prohibitedConfig
  /-- TLBWI or TLBWR with a PageMask.MASK that is not in Table 2-34 (R34, U10). Safe. -/
  | undefinedPageMask
deriving DecidableEq, Repr

/-- Why the model gives no next state. -/
inductive Refusal where
  /-- The instruction has no meaning in the model; raised by `exec` only. Safe. -/
  | notModelled (mnemonic : String)
deriving DecidableEq, Repr

/-- A CPU write that has left the core's pipeline and has not had its effect (R162, R515). -/
inductive PostedWrite where
  /-- A write of SDRAM: the bytes that it replaces, which bus masters still read. -/
  | memory (replaced : List Host.Cell)
  /-- A single write of `n` bytes elsewhere. -/
  | single (pa : PAddr) (n : Nat) (v : Dword)
  /-- A burst write of four words elsewhere. -/
  | burst (pa : PAddr) (v : BitVec 128)
deriving DecidableEq, Repr

/-! ### The whole machine -/

/-- Main memory: the bytes of SDRAM and boot ROM by physical address, in the canonical form of `Memory.wf`. -/
abbrev Memory := List Host.Cell

/-- The state of the chip. A field without a default in its type has its reset value in `State.reset`. -/
structure State where
  /-- GPR[0..31] (R20); entry 0 is never read and never written (R21). -/
  gpr : Vector Dword 32 := Vector.replicate 32 0
  /-- HI (R25). -/
  hi : Dword := 0
  /-- LO (R25). -/
  lo : Dword := 0
  /-- The program counter (R23). -/
  pc : Dword := 0xFFFF_FFFF_BFC0_0000
  /-- Whether the instruction at `pc` is in a delay slot, and the pending target (R75). -/
  slot : Slot := .normal
  /-- The CP0 registers. -/
  cp0 : Cp0 := {}
  /-- The TLB (R65). -/
  tlb : Vector TlbEntry 32 := Vector.replicate 32 {}
  /-- `TLB_shutdown`, read as Status.TS (R66). -/
  tlbShutdown : Bool := false
  /-- The instruction cache by line number 0..1023; an unlisted line is `{}` (R70). -/
  icache : List (Nat × ILine) := []
  /-- The data cache by line number 0..511; an unlisted line is `{}` (R70). -/
  dcache : List (Nat × DLine) := []
  /-- The power mode (R73). -/
  power : PowerMode := .fullspeed
  /-- `nmi_pending` (R1122). -/
  nmiPending : Bool := false
  /-- The level of `nmib` when it was last sampled (R1122, D22). -/
  nmiLine : Bool := false
  /-- `watch_pending` (R1152). -/
  watchPending : Bool := false
  /-- SDRAM and boot ROM as the core sees them (R136): every CPU write included, landed or not. -/
  mem : Memory := []
  /-- The CPU writes on their way, oldest first: the first four stand in the system controller's write command buffer (R162 b),
  those behind them in the core's internal write buffer (R162 a). -/
  posted : List PostedWrite := []
  /-- The memory controller's write FIFO (R162 c): the bytes that bus masters still read in place of those of the SDRAM
  write in it; no bytes, no write. -/
  writeFifo : List Host.Cell := []
  /-- The system controller. -/
  syscon : Syscon := {}
  /-- The UART. -/
  uart : Uart := {}
  /-- The two timers. -/
  timers : Timers := {}
  /-- The Micro Wire block. -/
  microWire : MicroWire := {}
  /-- The USB controller. -/
  usb : Usb := {}
  /-- Ethernet controller #1. -/
  eth1 : Eth := {}
  /-- Ethernet controller #2. -/
  eth2 : Eth := {}
  /-- The ATM cell processor. -/
  atm : Atm := {}
  /-- The PCI controller. -/
  pci : Pci := {}
  /-- The parameters of the run. -/
  board : Board := {}
  /-- Pipeline cycles since Count last advanced (R37, D9). The model's own field. -/
  countPre : Nat := 0
  /-- The thirds of an IBUS clock that have passed since its last edge, while the CPU runs at 3/2 of its rate (R572). The model's own
  field. -/
  ibusPre : Nat := 0
  /-- How many free values have been drawn. The model's own field. -/
  free : Nat := 0
  /-- How many steps have been made; it selects the open duration of the next step (D47). The model's own field. -/
  steps : Nat := 0
  /-- The events to come, a list for each step to come, the next step's first. The model's own field. -/
  inputs : List (List Event) := []
deriving DecidableEq, Repr

/-- The state after reset (R76, R1202): every register at the value the spec states, every other at the value that the
assumption log names. Memory lists nothing and no event is to come. -/
def State.reset : State := {}

end Sys2Proof.Machine
end

