-- ==== Sys2Proof/Machine/Memory.lean ====
section
/-! DEFINITION. Main memory (spec/20_memory.md R100, R101, R136): bytes by physical address below 2000_0000H, little-endian
groups of bytes as numbers. A byte that nothing has written reads 0. -/
namespace Sys2Proof.Machine

/-- What an unlisted byte reads as: the spec gives SDRAM and boot ROM no contents (R1202); the model names 0. -/
def unlistedByte : Byte := 0

/-- The canonical form of memory: addresses strictly rising, no entry equal to `unlistedByte`. -/
def Memory.wf (m : Memory) : Bool := cellWf unlistedByte 0 m

/-- The byte at `a`. -/
def Memory.byte (m : Memory) (a : Nat) : Byte := cellGet unlistedByte m a

/-- Store a byte at `a`. -/
def Memory.setByte (m : Memory) (a : Nat) (b : Byte) : Memory := cellSet unlistedByte m a b

/-- The `n` bytes from `a` on as a number, the byte at `a` least significant (R101). -/
def Memory.read (m : Memory) (a : Nat) : Nat → Nat
  | 0 => 0
  | n + 1 => (m.byte a).toNat + 256 * m.read (a + 1) n

/-- Store the low `n` bytes of `v` from `a` on, the least significant at `a` (R101). -/
def Memory.write (m : Memory) (a : Nat) : Nat → Nat → Memory
  | 0, _ => m
  | n + 1, v => (m.setByte a (BitVec.ofNat 8 v)).write (a + 1) n (v / 256)

end Sys2Proof.Machine
end

