-- ==== Sys2Proof/Machine/Atm.lean ====
section
/-! DEFINITION. The ATM cell processor (spec/51_platform_atm.md): the register file, the command protocol, the
mailboxes, and the SAR FIFOs with the UTOPIA interface.
What its firmware does is in AtmFirmware.lean. -/
namespace Sys2Proof.Machine

/-- A_CMR.BSY (R611). -/
def Atm.busy (a : Atm) : Bool := a.cmr.getLsbD 31

/-- `atm_int` (R620). -/
def Atm.intr (a : Atm) : Bool := (a.gsr &&& a.imr) != 0

/-- The mailbox register `off` addresses within one of the four groups of four words. -/
def mailboxIndex (off : Nat) : Fin 4 := ⟨off / 4 % 4, Nat.mod_lt _ (by decide)⟩

/-- A load of the register at offset `o` from 1001_F000H (R605), its size aside. A_GSR is read-clear. The areas that the
VR4120A cannot access have no stated answer (U43): open data (DESIGN CHOICE, assumption log 50). -/
def Atm.readReg (a : Atm) (o : Nat) : DevReply Atm :=
  match o with
  | 0x000 => { dev := a, data := some a.gmr }
  | 0x004 => { dev := { a with gsr := 0 }, data := some a.gsr }
  | 0x008 => { dev := a, data := some a.imr }
  | 0x00C => { dev := a, data := some a.rqu }
  | 0x010 => { dev := a, data := some a.rqa }
  | 0x018 => { dev := a, data := some 0x0000_0201 }
  | 0x020 => { dev := a, data := some a.cmr }
  | 0x028 => { dev := a, data := some a.cer }
  | 0x090 => { dev := a, data := some a.rcc }
  | 0x094 => { dev := a, data := some a.tcc }
  | 0x098 => { dev := a, data := some a.ruec }
  | 0x09C => { dev := a, data := some a.ridc }
  | 0x0C0 => { dev := a, data := some a.t1r }
  | 0x0C8 => { dev := a, data := some a.tsr }
  | 0x300 => { dev := a, data := some a.ibbar }
  | 0x304 => { dev := a, data := some a.inbar }
  | 0x320 => { dev := a, data := some a.umcmd }
  | o =>
    if 0x050 ≤ o ∧ o < 0x060 then { dev := a, data := some a.msa[mailboxIndex o] }
    else if 0x060 ≤ o ∧ o < 0x070 then { dev := a, data := some a.mba[mailboxIndex o] }
    else if 0x070 ≤ o ∧ o < 0x080 then { dev := a, data := some a.mta[mailboxIndex o] }
    else if 0x080 ≤ o ∧ o < 0x090 then { dev := a, data := some a.mwa[mailboxIndex o] }
    else if (0x200 ≤ o ∧ o < 0x300) ∨ (0x400 ≤ o ∧ o < 0x500) then { dev := a, data := none }
    else { dev := a, status := .reserved }

/-- An access of the PHY area has a legal size (R617 BM): with BM = 1 halfword-aligned accesses only. Which sizes are legal with BM = 0 is
not stated (R618, N38): the model accepts every size (DESIGN CHOICE, assumption log 73). -/
def Atm.phySizeOk (a : Atm) (be : Lanes) : Bool := !a.umcmd.getLsbD 30 || be == 0x3 || be == 0xC || be == 0xF

/-- A load; the registers accept word accesses only (R604). The PHY area answers whatever the PHY does (R618); what the work
RAM window and the hole behind it answer is not stated (R603, U43): open data. `off` is the offset from 1001_0000H. -/
def Atm.read (a : Atm) (off : Nat) (be : Lanes) : DevReply Atm :=
  if off < 0xE000 then { dev := a, data := none }
  else if off < 0xF000 then DevReply.sized (a.phySizeOk be) { dev := a, data := none }
  else (a.readReg (off - 0xF000)).sized (be == Lanes.word)

/-- A store to A_CMR: ignored while BSY = 1, else it sets BSY and starts the command with A_CER as it stands (R611, R635). Of a command
that uses A_CER without a new value written to it R635 (b) says only that its contents are ignored: the model takes the old value
(DESIGN CHOICE, assumption log 73). A command hands over structures in memory: what the firmware has read ahead of it counts no more
(R165). -/
def Atm.writeCmr (a : Atm) (v : Word) : Atm :=
  if a.busy then a else { a with cmr := v ||| 0x8000_0000, cerLatch := a.cer, ahead := [] }

/-- A store to A_INBAR starts the RISC core; a second one hangs it (R612, U44). -/
def Atm.writeInbar (a : Atm) (v : Word) : Atm :=
  { a with inbar := v, started := true, hung := a.hung || a.started }

/-- A_UMCMD as a store leaves it (R617): EM can be 1 only in 16-bit transfer mode (BM = 1). The prohibited MSL = 1x is stored and read
back, without an effect (DESIGN CHOICE, assumption log 73). -/
def umcmdValue (v : Word) : Word :=
  if v.getLsbD 30 then v &&& 0x6000_0007 else v &&& 0x0000_0007

/-- A store to the register at offset `o` from 1001_F000H (R605–R617), its size aside. The low bits of A_IBBAR and A_INBAR are
kept as written (U44; DESIGN CHOICE, assumption log 50). -/
def Atm.writeReg (a : Atm) (o : Nat) (v : Word) : DevReply Atm :=
  match o with
  | 0x000 => { dev := { a with gmr := v &&& 0x0000_4003 } }
  | 0x004 => { dev := a }
  | 0x008 => { dev := { a with imr := v &&& 0xE0A0_FFFF } }
  | 0x00C => { dev := a }
  | 0x010 => { dev := a }
  | 0x018 => { dev := a }
  | 0x020 => { dev := a.writeCmr v }
  | 0x028 => { dev := { a with cer := v } }
  | 0x090 => { dev := a }
  | 0x094 => { dev := a }
  | 0x098 => { dev := a }
  | 0x09C => { dev := a }
  | 0x0C0 => { dev := { a with t1r := v &&& 0x7FFF_FFFF } }
  | 0x0C8 => { dev := { a with tsr := v } }
  | 0x300 => { dev := { a with ibbar := v } }
  | 0x304 => { dev := a.writeInbar v }
  | 0x320 => { dev := { a with umcmd := umcmdValue v } }
  | o =>
    let i := mailboxIndex o
    if 0x050 ≤ o ∧ o < 0x060 then { dev := { a with msa := a.msa.set i v } }
    else if 0x060 ≤ o ∧ o < 0x070 then { dev := { a with mba := a.mba.set i v } }
    else if 0x070 ≤ o ∧ o < 0x080 then { dev := { a with mta := a.mta.set i v, full := setBit a.full i false } }
    else if 0x080 ≤ o ∧ o < 0x090 then { dev := { a with mwa := a.mwa.set i v } }
    else if (0x200 ≤ o ∧ o < 0x300) ∨ (0x400 ≤ o ∧ o < 0x500) then { dev := a }
    else { dev := a, status := .reserved }

/-- A store; the registers accept word accesses only (R604). A store to the work RAM window or to the hole behind it has no
stated effect, and has none here (U43; DESIGN CHOICE, assumption log 50). -/
def Atm.write (a : Atm) (off : Nat) (be : Lanes) (v : Word) : DevReply Atm :=
  if off < 0xE000 then { dev := a }
  else if off < 0xF000 then DevReply.sized (a.phySizeOk be) { dev := a }
  else (a.writeReg (off - 0xF000) v).sized (be == Lanes.word)

/-- The RISC core is running and may use the IBUS (R612, R681). -/
def Atm.active (a : Atm) (granted : Bool) : Bool := granted && a.started && !a.hung

/-- The firmware has been fetched, so that the block reports ready and answers requests (R511, R512, R612). -/
def Atm.running (a : Atm) : Bool := a.loaded && !a.hung

/-- The entry size of mailbox `n` in bytes: receive mailboxes 0 and 1 have 4-word entries (R670). -/
def atmEntryBytes (n : Fin 4) : Nat := if n.val < 2 then 16 else 4

/-- An indication into mailbox `n` (R670): the address it is stored at and the write pointer afterwards; none in the MF state or
where the entry does not lie between A_MSAn and A_MBAn. -/
def Atm.indicate (a : Atm) (n : Fin 4) : Option (Nat × Word) :=
  let w := a.mwa[n]
  let size := atmEntryBytes n
  if a.full.getLsbD n || decide (w.toNat < a.msa[n].toNat) || decide (a.mba[n].toNat < w.toNat + size) then none
  else some (w.toNat, if w + BitVec.ofNat 32 size = a.mba[n] then a.msa[n] else w + BitVec.ofNat 32 size)

/-- A_MWAn advances to `w` (R670): MMn, and where it becomes equal to A_MTAn the MF state with MFn. -/
def Atm.advanceMailbox (n : Fin 4) (w : Word) (a : Atm) : Atm :=
  let isFull := decide (w = a.mta[n])
  { a with
    mwa := a.mwa.set n w
    full := setBit a.full n isFull
    gsr := a.gsr ||| BitVec.twoPow 32 n ||| (if isFull then BitVec.twoPow 32 (4 + n) else 0) }

/-- Once the writes of the last action have been made, its bits of A_GSR and its indication appear (R165, R670). -/
def Atm.publish (a : Atm) : Atm :=
  if !a.stores.isEmpty then a
  else
    let b := { a with gsr := a.gsr ||| a.gsrAfter, gsrAfter := 0, mwaAfter := none }
    match a.mwaAfter with
    | some (n, w) => b.advanceMailbox n w
    | none => b

/-- BER, if an access failed (R607). -/
def Atm.checkBus (a : Atm) (ok : Bool) : Atm := if ok then a else { a with gsr := a.gsr ||| 0x0001_0000 }

/-- The firmware may execute the pending command: none in the MF state of a mailbox (R635 g, R670). -/
def Atm.commandReady (a : Atm) : Bool := a.busy && a.full == 0

/-- `n` IBUS clocks: A_TSR counts them from reset on (R615). -/
def Atm.tick (n : Nat) (a : Atm) : Atm := { a with tsr := a.tsr + BitVec.ofNat 32 n }

/-! ### The SAR FIFOs and the UTOPIA interface (R601, R602) -/

/-- The number of cells that a SAR FIFO holds (R601). -/
def sarFifoCells : Nat := 4

/-- The cell counts as a transmitted one (R614) and goes into the transmit SAR FIFO (R650 e). It counts here, when the firmware acts
(R681), and not when it leaves (DESIGN CHOICE, assumption log 75). -/
def Atm.emit (c : AtmCell) (a : Atm) : Atm := { a with tcc := a.tcc + 1, txFifo := a.txFifo ++ [c] }

/-- A cell comes into the receive SAR FIFO, if reception is enabled (R606) and there is room; without room the interface takes none
(R601; DESIGN CHOICE, assumption log 75). Idle and unassigned cells, those with VPI/VCI 0 (PRESUMED, assumption log 60), are removed
before it (R602 c). None where the interface does not take the cell. -/
def Atm.accept (c : AtmCell) (a : Atm) : Option Atm :=
  if !a.gmr.getLsbD 0 then none
  else if c.header.extractLsb' 4 24 = (0 : BitVec 24) then some a
  else if a.rxFifo.length < sarFifoCells then some { a with rxFifo := a.rxFifo ++ [c] }
  else none

/-- A cell comes in from a PHY; none does in loopback (R606). -/
def Atm.arrive (c : AtmCell) (a : Atm) : Atm := if a.gmr.getLsbD 14 then a else (a.accept c).getD a

/-- The PHY with number `phy` is ready, and the oldest cell for it leaves: it may overtake cells for PHYs that are not ready (R602 b).
In loopback the oldest cell comes back in instead, once the receive side takes it (R606). The PHY makes the HEC (R651). While
transmission is disabled the cells wait (R606; DESIGN CHOICE, assumption log 75). -/
def Atm.depart (phy : BitVec 5) (hec : Byte) (a : Atm) : Atm :=
  if !a.gmr.getLsbD 1 then a
  else if a.gmr.getLsbD 14 then
    match a.txFifo with
    | [] => a
    | c :: rest => ({ a with txFifo := rest }.accept { c with hec := hec }).getD a
  else
    match a.txFifo.find? fun c => c.phy == phy with
    | none => a
    | some c => { a with txFifo := a.txFifo.erase c, sent := c :: a.sent }

/-- Cold reset or S_WRCR.ATMWR (R680): the registers take their reset values, the RISC core stops and the FIFOs are empty; the contents
of the work RAM and of the lookup table are not stated and stay, as does what has left the block. -/
def Atm.warmReset (a : Atm) : Atm := { workRam := a.workRam, lookup := a.lookup, sent := a.sent }

end Sys2Proof.Machine
end

