-- ==== Sys2Proof/Machine/Eth.lean ====
section
/-! DEFINITION. The registers and the interrupt request of an Ethernet controller block (spec/52_platform_ethernet.md); the
chip has two. What the block does on its own is in `EthMac.lean`. -/
namespace Sys2Proof.Machine

/-- `eth_int(n)` (R745). -/
def Eth.intr (e : Eth) : Bool := (e.isr &&& e.msr) != 0

/-- `carry_pending` (R746). -/
def Eth.carryPending (e : Eth) : Bool := (e.car1 &&& e.cam1) != 0 || (e.car2 &&& e.cam2) != 0

/-- En_MIND (R721). -/
def Eth.mind (e : Eth) : Word :=
  (if e.nvalid then 4 else 0) ||| (if e.scan then 2 else 0) ||| (if e.mii.isSome then 1 else 0)

/-- The counter at an offset from +140H to +1FCH, if there is one (R706). -/
def ethCounter (off : Nat) : Option (Fin 48) :=
  if h : 0x140 ≤ off ∧ off < 0x200 ∧ ¬ (0x19C ≤ off ∧ off < 0x1C0) then some ⟨(off - 0x140) / 4, by omega⟩ else none

/-- The bits of En_CAR1 and En_CAR2 that belong to counter `i` (R724, R725). -/
def ethCarry (i : Fin 48) : Word × Word :=
  match i.val with
  | 0 => (0x0001, 0) | 1 => (0x0002, 0) | 2 => (0, 0x000001) | 3 => (0x0004, 0)
  | 4 => (0x0008, 0) | 5 => (0, 0x000002) | 6 => (0, 0x000004) | 7 => (0, 0x000008)
  | 8 => (0, 0x000010) | 9 => (0, 0x000020) | 10 => (0, 0x000040) | 11 => (0, 0x000080)
  | 12 => (0, 0x000100) | 13 => (0, 0x000200) | 14 => (0, 0x000400) | 15 => (0, 0x000800)
  | 16 => (0x0010, 0) | 17 => (0x0020, 0) | 18 => (0x0040, 0) | 19 => (0x0080, 0)
  | 20 => (0x0100, 0) | 21 => (0x0200, 0) | 22 => (0x8000, 0)
  | 32 => (0x0400, 0) | 33 => (0x0800, 0) | 34 => (0, 0x001000) | 35 => (0x1000, 0)
  | 36 => (0x2000, 0) | 37 => (0x4000, 0) | 38 => (0, 0x002000) | 39 => (0, 0x004000)
  | 40 => (0, 0x008000) | 41 => (0, 0x010000) | 42 => (0, 0x020000) | 43 => (0, 0x040000)
  | 44 => (0, 0x080000) | 45 => (0, 0x100000) | 46 => (0, 0x200000) | 47 => (0, 0x400000)
  | _ => (0, 0)

/-- A load of the register at `off` (R705). En_ISR is read-clear; En_MCMD reads 0 (U51); offsets that are not described
answer as a reserved area (U49). -/
def Eth.readReg (e : Eth) (off : Nat) : DevReply Eth :=
  match off with
  | 0x000 => { dev := e, data := some e.macc1 }
  | 0x004 => { dev := e, data := some e.macc2 }
  | 0x008 => { dev := e, data := some e.ipgt }
  | 0x00C => { dev := e, data := some e.ipgr }
  | 0x010 => { dev := e, data := some e.clrt }
  | 0x014 => { dev := e, data := some e.lmax }
  | 0x054 => { dev := e, data := some e.lsa2 }
  | 0x058 => { dev := e, data := some e.lsa1 }
  | 0x05C => { dev := e, data := some 0 }
  | 0x064 => { dev := e, data := some e.vltp }
  | 0x080 => { dev := e, data := some e.miic }
  | 0x094 => { dev := e, data := some 0 }
  | 0x098 => { dev := e, data := some e.madr }
  | 0x09C => { dev := e, data := some e.mwtd }
  | 0x0A0 => { dev := e, data := some e.mrdd }
  | 0x0A4 => { dev := e, data := some e.mind }
  | 0x0C8 => { dev := e, data := some e.afr }
  | 0x0CC => { dev := e, data := some e.ht1 }
  | 0x0D0 => { dev := e, data := some e.ht2 }
  | 0x0DC => { dev := e, data := some e.car1 }
  | 0x0E0 => { dev := e, data := some e.car2 }
  | 0x130 => { dev := e, data := some e.cam1 }
  | 0x134 => { dev := e, data := some e.cam2 }
  | 0x200 => { dev := e, data := some e.txcr }
  | 0x204 => { dev := e, data := some e.txfcr }
  | 0x214 => { dev := e, data := some e.txdpr }
  | 0x218 => { dev := e, data := some e.rxcr }
  | 0x21C => { dev := e, data := some e.rxfcr }
  | 0x22C => { dev := e, data := some e.rxdpr }
  | 0x230 => { dev := e, data := some e.rxpdr }
  | 0x234 => { dev := e, data := some e.ccr }
  | 0x238 => { dev := { e with isr := 0 }, data := some e.isr }
  | 0x23C => { dev := e, data := some e.msr }
  | o => match ethCounter o with
    | some i => { dev := e, data := some e.counters[i] }
    | none => { dev := e, status := .reserved }

/-- A load: the registers accept word accesses only (R704). -/
def Eth.read (e : Eth) (off : Nat) (be : Lanes) : DevReply Eth := (e.readReg off).sized (be == Lanes.word)

/-- A write of En_CARn or En_CAMn raises CARRY when it makes `carry_pending` true (R746, decision D50). -/
def Eth.recheckCarry (before after : Eth) : Eth :=
  if !before.carryPending && after.carryPending then { after with isr := after.isr ||| 1 } else after

/-- A write of En_MCMD (R718, R721, R771): SCANC starts and ends the scan, RSTAT starts one read; held off while
En_MIIC.MIRST = 1. While BUSY = 1 the new access takes the place of the one in progress (DESIGN CHOICE, assumption log 71). With SCANC
and RSTAT both 1 the scan alone runs, and SCANC = 1 while a scan is active does not set NVALID again: neither is stated (DESIGN CHOICE,
assumption log 74). -/
def Eth.writeMcmd (e : Eth) (v : Word) : Eth :=
  if e.miic.getLsbD 15 then e
  else
    { e with
      scan := v.getLsbD 1
      nvalid := if v.getLsbD 1 then e.nvalid || !e.scan else e.nvalid
      mii := if v.getLsbD 1 || v.getLsbD 0 then some (.read (v.getLsbD 1)) else e.mii }

/-- A write of En_MIIC (R717): MIRST = 1 resets the MII management block. What that clears is not stated: SCANA, NVALID and BUSY of
En_MIND become 0, En_MADR, En_MWTD and En_MRDD stay, and until MIRST = 0 neither En_MCMD nor a write of En_MWTD starts an access (DESIGN
CHOICE, assumption log 76). -/
def Eth.writeMiic (e : Eth) (v : Word) : Eth :=
  if v.getLsbD 15 then { e with miic := v &&& 0x0000_800C, mii := none, scan := false, nvalid := false }
  else { e with miic := v &&& 0x0000_800C }

/-- The frame being sent is dropped if `c` (DESIGN CHOICE, assumption logs 71, 80). A transmitter that waits for En_TXDPR after an
abort or a Null link pointer goes on waiting, also after a software reset, of which R709 and R735 do not say whether it ends the wait (DESIGN CHOICE, assumption log 74). -/
def Eth.dropTx (e : Eth) (c : Bool) : Eth :=
  if c then
    { e with txBuf := none, txData := [], txOut := 0, txReadError := false, txUnderran := false, txAbort := none }
  else e

/-- The frames being received are dropped if `c`, with their counts (DESIGN CHOICE, assumption log 80). -/
def Eth.dropRx (e : Eth) (c : Bool) : Eth := if c then { e with rxFifo := [], rxBuf := none } else e

/-- A store to the register at `off` (R705–R737). The software resets stop activity and leave the registers (R709, R735, decision D49);
that they drop the frames under way, and the counts of one still arriving, is not stated (DESIGN CHOICE, assumption log 80). A
write of En_MWTD starts the MII write cycle (R771), in place of an access in progress (DESIGN CHOICE, assumption log 71). A write of
En_TXDPR lets a halted transmitter begin with a new frame (R762, R763), and drops a frame under way; one of En_RXDPR makes the
receiver take the first descriptor there (R766 iii), and leaves a buffer that is being filled: the rest of the frame goes to the new
one (for both DESIGN CHOICE, assumption log 71). -/
def Eth.writeReg (e : Eth) (off : Nat) (v : Word) : DevReply Eth :=
  match off with
  | 0x000 => { dev := { e with macc1 := v &&& 0x0000_0FEF } }
  | 0x004 =>
    { dev := ({ e with macc2 := v &&& 0x0000_0770 }.dropTx (v.getLsbD 8 || v.getLsbD 10)).dropRx
        (v.getLsbD 9 || v.getLsbD 10) }
  | 0x008 => { dev := { e with ipgt := v &&& 0x0000_007F } }
  | 0x00C => { dev := { e with ipgr := v &&& 0x0000_7F7F } }
  | 0x010 => { dev := { e with clrt := v &&& 0x0000_3F0F } }
  | 0x014 => { dev := { e with lmax := v &&& 0x0000_FFFF } }
  | 0x054 => { dev := { e with lsa2 := v &&& 0x0000_FFFF } }
  | 0x058 => { dev := { e with lsa1 := v } }
  | 0x05C => { dev := e }
  | 0x064 => { dev := { e with vltp := v &&& 0x0000_FFFF } }
  | 0x080 => { dev := e.writeMiic v }
  | 0x094 => { dev := e.writeMcmd v }
  | 0x098 => { dev := { e with madr := v &&& 0x0000_1F1F } }
  | 0x09C => { dev := { e with
      mwtd := v &&& 0x0000_FFFF
      mii := if e.miic.getLsbD 15 then e.mii else some .write } }
  | 0x0A0 => { dev := e }
  | 0x0A4 => { dev := e }
  | 0x0C8 => { dev := { e with afr := v &&& 0x0000_000F } }
  | 0x0CC => { dev := { e with ht1 := v } }
  | 0x0D0 => { dev := { e with ht2 := v } }
  | 0x0DC => { dev := e.recheckCarry { e with car1 := v &&& 0x0000_FFFF } }
  | 0x0E0 => { dev := e.recheckCarry { e with car2 := v &&& 0x807F_FFFF } }
  | 0x130 => { dev := e.recheckCarry { e with cam1 := v &&& 0x0000_FFFF } }
  | 0x134 => { dev := e.recheckCarry { e with cam2 := v &&& 0x807F_FFFF } }
  | 0x200 => { dev := { e with txcr := v &&& 0x8007_0001 } }
  | 0x204 => { dev := { e with txfcr := v &&& 0xFFFF_FCFC } }
  | 0x214 => { dev := { e with txdpr := v &&& 0xFFFF_FFFC, txHalted := false }.dropTx true }
  | 0x218 => { dev := { e with rxcr := v &&& 0x8007_0000 } }
  | 0x21C => { dev := { e with rxfcr := v &&& 0xFCFC_00FC } }
  | 0x22C => { dev := { e with rxdpr := v &&& 0xFFFF_FFFC, rxBuf := none, rxArmed := true } }
  | 0x230 => { dev := { e with rxpdr := v &&& 0x7000_FFFF } }
  | 0x234 => { dev := ({ e with ccr := v &&& 0x0000_0001 }.dropTx (v.getLsbD 0)).dropRx (v.getLsbD 0) }
  | 0x238 => { dev := e }
  | 0x23C => { dev := { e with msr := v &&& 0x8000_FCF1 } }
  | o => match ethCounter o with
    | some i => { dev := { e with counters := e.counters.set i v } }
    | none => { dev := e, status := .reserved }

/-- A store: the registers accept word accesses only (R704). -/
def Eth.write (e : Eth) (off : Nat) (be : Lanes) (v : Word) : DevReply Eth := (e.writeReg off v).sized (be == Lanes.word)

/-- Cold reset, or warm reset by S_WRCR.MACWR / MAC2WR (R780); the frames that have left stay sent. -/
def Eth.warmReset (e : Eth) : Eth := { sent := e.sent }

end Sys2Proof.Machine
end

