-- ==== Sys2Proof/Machine/MicroWire.lean ====
section
/-! DEFINITION. The Micro Wire block and its serial EEPROM (spec/55_platform_uart_timer_microwire.md §4). -/
namespace Sys2Proof.Machine

/-- ERDR (R1032): B = 1 while a transfer is in progress. -/
def MicroWire.erdr (m : MicroWire) : Word :=
  (if m.pending.isSome then 0x8000_0000 else 0) ||| m.readData.zeroExtend 32

/-- READ DATA is not specified: no EEPROM is connected and the power-up load is over (R1036). -/
def MicroWire.openData (m : MicroWire) : Bool := m.eeprom.isNone && m.pending.isNone

/-- A load of the register at `off` = 00H..10H from 1000_00D0H (R1030). ECCR is write-only: an unspecified value (U71). -/
def MicroWire.read (m : MicroWire) (off : Nat) : DevReply MicroWire :=
  match off with
  | 0x00 => { dev := m, data := none }
  | 0x04 => { dev := m, data := if m.openData then none else some m.erdr, limit := 0xFFFF }
  | 0x08 => { dev := m, data := some m.macar1 }
  | 0x0C => { dev := m, data := some m.macar2 }
  | _ => { dev := m, data := some m.macar3 }

/-- A store to the register at `off` (R1031, R1036): a command written into ECCR starts an access, and a store to DATA alone only
stores them; a store while a command runs is lost (U73; DESIGN CHOICE, assumption log 50). With no EEPROM a store has no effect
(R1030). The other registers are read-only. -/
def MicroWire.write (m : MicroWire) (off : Nat) (be : Lanes) (v : Word) : MicroWire :=
  if off != 0x00 || m.pending.isSome || m.eeprom.isNone then m
  else
    let w := writeBits be 0xFFFF_01FF m.eccr v
    { m with
      eccr := w
      pending :=
        if be.getLsbD 0 || be.getLsbD 1 then
          some (.command (w.extractLsb' 6 3) (w.extractLsb' 0 6) (w.extractLsb' 16 16))
        else none }

/-- Word `i` of the EEPROM. -/
def eepromWord (e : Vector Half 64) (i : BitVec 6) : Half := e[i.toNat]'(i.isLt)

/-- The end of the power-up load (R1035): the MAC address registers take words 01H–06H if word 00H is A5A5H. -/
def MicroWire.finishLoad (m : MicroWire) : MicroWire :=
  match m.eeprom with
  | some e =>
    if eepromWord e 0 = 0xA5A5 then
      { m with
        pending := none
        macar1 := (eepromWord e 2 ++ eepromWord e 1 : BitVec 32)
        macar2 := (eepromWord e 4 ++ eepromWord e 3 : BitVec 32)
        macar3 := (eepromWord e 6 ++ eepromWord e 5 : BitVec 32) }
    else { m with pending := none, macar1 := 0, macar2 := 0, macar3 := 0 }
  | none => { m with pending := none, macar1 := 0, macar2 := 0, macar3 := 0 }

/-- The end of an EEPROM command (R1034, R1036). Erase and write commands act only while writes are enabled; an
erased word reads FFFFH. With no EEPROM there is no command. The codes 000–011 are not defined (U72): they leave `fresh` in READ DATA and change nothing else (DESIGN CHOICE, assumption log 50). -/
def MicroWire.finishCommand (m : MicroWire) (cmd : BitVec 3) (addr : BitVec 6) (data fresh : Half) : MicroWire :=
  let m := { m with pending := none }
  match m.eeprom with
  | none => m
  | some e =>
    let change (e' : Vector Half 64) : MicroWire := if m.writeEnabled then { m with eeprom := some e' } else m
    match cmd.toNat, (addr.extractLsb' 4 2).toNat with
    | 6, _ => { m with readData := eepromWord e addr }
    | 5, _ => change (e.set addr.toNat data addr.isLt)
    | 7, _ => change (e.set addr.toNat 0xFFFF addr.isLt)
    | 4, 3 => { m with writeEnabled := true }
    | 4, 2 => change (Vector.replicate 64 0xFFFF)
    | 4, 1 => change (Vector.replicate 64 data)
    | 4, 0 => { m with writeEnabled := false }
    | _, _ => { m with readData := fresh }

/-- The transfer in progress ends (an action of the environment: it takes a finite, unstated time, R1036). -/
def MicroWire.finish (m : MicroWire) (fresh : Half) : MicroWire :=
  match m.pending with
  | none => m
  | some .load => m.finishLoad
  | some (.command cmd addr data) => m.finishCommand cmd addr data fresh

/-- Cold reset (R1037): the registers take their reset values and the power-up load starts; the EEPROM keeps its
contents, with writes disabled. -/
def MicroWire.coldReset (m : MicroWire) : MicroWire := { eeprom := m.eeprom }

end Sys2Proof.Machine
end

