-- ==== Sys2Proof/Machine/Pci.lean ====
section
/-! DEFINITION. The PCI controller (spec/54_platform_pci.md): its registers as the VR4120A and as the PCI side
see them, the window onto the PCI bus, and the actions of the environment agent of R976. -/
namespace Sys2Proof.Machine

/-- P_IGSR as it reads: in host mode PINTR (bit 11) is set while PHINT_B is asserted, and stays set until a read clears
the register (R910, R927). -/
def Pci.igsrNow (nic : Bool) (p : Pci) : Word :=
  p.igsr ||| (if !nic && p.phint then 0x0000_0800 else 0)

/-- `pci_int` (R925). -/
def Pci.intr (nic : Bool) (p : Pci) : Bool := (p.igsrNow nic &&& p.iimr) != 0

/-- The interrupt pin PINT_B towards the PCI host, NIC mode only (R926). -/
def Pci.pintB (nic : Bool) (p : Pci) : Bool := nic && (p.pgsr &&& p.pimr) != 0

/-- PME_B asserted (R942, R964), NIC mode only. -/
def Pci.pmeB (nic : Bool) (p : Pci) : Bool := nic && p.pmcsr.getLsbD 15 && p.pmcsr.getLsbD 8

/-- PRSTO_B asserted (R914, R968), host mode only. -/
def Pci.prstoB (nic : Bool) (p : Pci) : Bool := !nic && p.hmcr.getLsbD 31

/-- Command: bus master enable (R932). -/
def Pci.busMaster (p : Pci) : Bool := p.command.getLsbD 2

/-- Command: memory access enable (R932). -/
def Pci.memAccess (p : Pci) : Bool := p.command.getLsbD 1

/-- P_BCNT.INITD: accesses from the PCI bus are no longer answered with 'retry' (R917, R952). -/
def Pci.initDone (p : Pci) : Bool := p.bcnt.getLsbD 31

/-- PMData, selected by PMCSR.Data_Select (R943). -/
def Pci.pmData (p : Pci) : Byte :=
  match (p.pmcsr.extractLsb' 9 4).toNat with
  | 0 => byteOf 0 p.pwcd
  | 1 => byteOf 1 p.pwcd
  | 3 => byteOf 3 p.pwcd
  | 4 => byteOf 0 p.pwdd
  | 5 => byteOf 1 p.pwdd
  | 7 => byteOf 3 p.pwdd
  | _ => 0

/-- Set bits of the configuration status register; in host mode they are not set (R933, C56). -/
def Pci.setStatus (nic : Bool) (p : Pci) (bits : Half) : Pci :=
  if nic then { p with status := p.status ||| bits } else p

/-- Set bits of P_IGSR and P_PGSR. -/
def Pci.flag (p : Pci) (ig pg : Word) : Pci := { p with igsr := p.igsr ||| ig, pgsr := p.pgsr ||| pg }

/-- Master abort as PCI master (R958). -/
def Pci.masterAbort (nic write : Bool) (p : Pci) : Pci :=
  (p.flag (if write then 0x1 else 0x2) 0x40).setStatus nic 0x2000

/-- Target abort as PCI master (R958). -/
def Pci.targetAbort (nic write : Bool) (p : Pci) : Pci :=
  (p.flag (if write then 0x4 else 0x8) 0x20).setStatus nic 0x1000

/-- Data parity error detected as master (R957 c): with the parity error response bit set also status bit 8. -/
def Pci.masterParity (nic : Bool) (p : Pci) : Pci :=
  (p.flag 0x200 0x100).setStatus nic (if p.command.getLsbD 6 then 0x8100 else 0x8000)

/-- The retry timer gave up an access (R959): P_PGSR.RTYTE. -/
def Pci.gaveUp (p : Pci) : Pci := p.flag 0 0x4

/-- One read issued on the PCI bus, answered by the environment (R949, R950, R976). With no answer queued no
device is attached and the read ends in master abort. `none` is a word nothing determines (U65). -/
def Pci.busRead (nic : Bool) (p : Pci) : DevReply Pci :=
  match p.replies with
  | [] => { dev := p.masterAbort nic false, data := some 0 }
  | .word w parity :: rest =>
    let p := { p with replies := rest }
    { dev := if parity then p.masterParity nic else p, data := some w }
  | .masterAbort :: rest => { dev := Pci.masterAbort nic false { p with replies := rest }, data := some 0 }
  | .targetAbort :: rest => { dev := Pci.targetAbort nic false { p with replies := rest }, data := some 0 }
  | .gaveUp :: rest =>
    let p := { p with replies := rest }
    { dev := if p.rtmr = 0 then p else p.gaveUp, data := none }

/-! #### The window onto the PCI bus (R945–R950) -/

/-- One word of a read of the window 1010_0000H–102F_FFFFH (R945, R949, R950). With bus master enable = 0 the controller
issues no access, and what the load returns is not stated (U63): an open word. DACEN = 1 has no effect (U61) (DESIGN CHOICE,
assumption log 50). -/
def Pci.windowRead (nic : Bool) (p : Pci) : DevReply Pci :=
  if p.busMaster then p.busRead nic else { dev := p, data := none }

/-- The PCI address a window access carries: the upper ten bits from P_PLBA (R905, R945). -/
def Pci.windowAddr (p : Pci) (a : PAddr) : Word := merge 0xFFC0_0000 (a.zeroExtend 32) p.plba

/-- The cache line size in words: 4, 8, 16 or 32 where the register is valid, else 0 (R935, R946). -/
def Pci.lineWords (p : Pci) : Nat :=
  if [4, 8, 16, 32].contains p.cacheLine.toNat then p.cacheLine.toNat else 0

/-- The command of a read of `words` words (R946). -/
def Pci.readCommand (p : Pci) (words : Nat) : PciCommand :=
  if p.lineWords = 0 ∨ words < p.lineWords then .memRead
  else if words = p.lineWords then .memReadLine
  else .memReadMultiple

/-- The command of a write of `words` words at PCI address `a`: Memory Write and Invalidate for whole cache lines, where the
command register allows it (R932, R946). -/
def Pci.writeCommand (p : Pci) (a : Word) (words : Nat) : PciCommand :=
  if p.lineWords ≠ 0 ∧ words % p.lineWords = 0 ∧ p.command.getLsbD 4 ∧ a.toNat % (4 * p.lineWords) = 0 then
    .memWriteInvalidate
  else .memWrite

/-- The words of one internal bus transfer, `size` words to an access on the PCI bus: the first access carries the address of the transfer,
every later one that of its first word (R945, R947–R950). -/
def pciAccesses (size : Nat) (command : Word → Nat → PciCommand) (a : Word) (lanes : List Lanes) (data : List Word) :
    List PciAccess :=
  (List.range ((lanes.length + size - 1) / size)).map fun i =>
    let at' := if i = 0 then a else (a &&& 0xFFFF_FFFC) + BitVec.ofNat 32 (4 * size * i)
    let be := (lanes.drop (size * i)).take size
    { command := command at' be.length, addr := at', lanes := be, data := (data.drop (size * i)).take size }

/-- The command writes. -/
def PciCommand.writes : PciCommand → Bool
  | .memWrite => true
  | .memWriteInvalidate => true
  | .configWrite => true
  | _ => false

/-- The accesses appear on the PCI bus, in order; a write stays open until it has ended there (R947). -/
def Pci.putOnBus (p : Pci) (accesses : List PciAccess) : Pci :=
  { p with
    issued := accesses.reverse ++ p.issued
    openWrites := p.openWrites + accesses.countP fun a => a.command.writes }

/-- The accesses of a window transfer or a configuration cycle appear on the PCI bus; with bus master enable = 0 none does (R932). -/
def Pci.issue (p : Pci) (accesses : List PciAccess) : Pci := if p.busMaster then p.putOnBus accesses else p

/-- A read of the window at the internal address `a` is issued: at most 16 words to an access, one as a non-delayed read
(R949, R950). -/
def Pci.issueRead (p : Pci) (a : PAddr) (lanes : List Lanes) : Pci :=
  p.issue (pciAccesses (if p.bcnt.getLsbD 1 then 1 else 16) (fun _ n => p.readCommand n) (p.windowAddr a) lanes [])

/-- The data of the delayed read of `n` bytes at the internal address `a`, if it is the one that the FIFO holds: the same address and
command (R949). -/
def Pci.heldRead (p : Pci) (a n : Nat) : Option (List Word) :=
  match p.readAhead with
  | some r => if r.addr = a ∧ r.bytes = n then some r.data else none
  | none => none

/-- A write of the window at the internal address `a` is issued: at most 16 words to an access, one as a non-posted write
(R947, R948). -/
def Pci.issueWrite (p : Pci) (a : PAddr) (lanes : List Lanes) (data : List Word) : Pci :=
  p.issue (pciAccesses (if p.bcnt.getLsbD 0 then 1 else 16) p.writeCommand (p.windowAddr a) lanes data)

/-! #### Configuration cycles (R965, R966) -/

/-- AD[31:16] in the address phase of a type 0 configuration cycle (R966). -/
def Pci.idsel (devnm : BitVec 5) : Half :=
  if devnm.getLsbD 4 then 0 else BitVec.twoPow 16 (devnm.extractLsb' 0 4).toNat

/-- AD[31:0] in the address phase of a configuration cycle (R965, R966). -/
def Pci.configAddr (p : Pci) : Word :=
  if p.pcar.getLsbD 0 then p.pcar
  else (Pci.idsel (p.pcar.extractLsb' 11 5) ++ (p.pcar.extractLsb' 0 16 : Half) : BitVec 32)

/-- A VR4120A load of P_PCDR (R965). In NIC mode (U66), with the prohibited setting CYCTP = 1x (U60; DESIGN CHOICE, assumption log 50),
and with bus master enable = 0, where the controller issues no access as PCI master (R932; the value DESIGN CHOICE, assumption log 50),
no cycle is issued and the value is open. -/
def Pci.readPcdr (nic : Bool) (p : Pci) (be : Lanes) : DevReply Pci :=
  if !p.pcar.getLsbD 31 then { dev := p, data := some 0 }
  else if nic || p.pcar.getLsbD 1 || !p.busMaster then { dev := p, data := none }
  else
    let r := (p.issue [{ command := .configRead, addr := p.configAddr, lanes := [be] }]).busRead nic
    { r with dev := { r.dev with pcdr := r.data.getD r.dev.pcdr } }

/-- A VR4120A store to P_PCDR (R965): with COCEN = 1 in host mode the register takes the data of the cycle, which is issued
unless CYCTP is prohibited (U60) or bus master enable = 0 (R932). -/
def Pci.writePcdr (nic : Bool) (p : Pci) (be : Lanes) (v : Word) : Pci :=
  let cycle : PciAccess := { command := .configWrite, addr := p.configAddr, lanes := [be], data := [v] }
  if !p.pcar.getLsbD 31 || nic then p
  else
    let p := { p with pcdr := writeBits be 0xFFFFFFFF p.pcdr v }
    if p.pcar.getLsbD 1 then p else p.issue [cycle]

/-! #### The registers and the configuration space -/

/-- The words of the configuration space, offsets 00H–FFH; reserved words read 0 (R930, U62). -/
def Pci.configWord (p : Pci) (off : Nat) : Word :=
  match off with
  | 0x00 => 0x00A7_1033
  | 0x04 => ((p.status ||| 0x0210) ++ p.command : BitVec 32)
  | 0x08 => 0x0003_0201
  | 0x0C => ((0 : Half) ++ (p.latency ++ p.cacheLine : BitVec 16) : BitVec 32)
  | 0x10 => p.windowBase
  | 0x14 => p.regBase
  | 0x2C => (p.subId ++ p.subVendor : BitVec 32)
  | 0x34 => 0x0000_0040
  | 0x3C => ((p.maxLat ++ p.minGnt : BitVec 16) ++ ((0x01 : Byte) ++ p.intLine : BitVec 16) : BitVec 32)
  | 0x40 => ((p.pmc ||| 0x0002) ++ (0x0001 : Half) : BitVec 32)
  | 0x44 => ((p.pmData ++ (0 : Byte) : BitVec 16) ++ (p.pmcsr ||| 0x4000) : BitVec 32)
  | _ => 0

/-- The command and status registers, written from either side (R932, R933): status bits 15:11 and 8 are
write-1-to-clear. -/
def Pci.writeCmdStatus (p : Pci) (be : Lanes) (v : Word) : Pci :=
  { p with
    command := merge (be.lowHalf &&& 0x0156) p.command (v.extractLsb' 0 16)
    status := p.status &&& ~~~(be.highHalf &&& 0xF900 &&& v.extractLsb' 16 16) }

/-- A new value of PMCSR.PowerState: 10 leaves the current state (R942). -/
def Pci.powerState (p : Pci) (v : Word) : Half :=
  if v.extractLsb' 0 2 = (0b10 : BitVec 2) then p.pmcsr
  else merge 0x0003 p.pmcsr (v.extractLsb' 0 16)

/-- A VR4120A write into the configuration space (IBUS column of R930–R942). -/
def Pci.writeConfig (p : Pci) (off : Nat) (be : Lanes) (v : Word) : Pci :=
  match off with
  | 0x04 => p.writeCmdStatus be v
  | 0x0C => { p with
      cacheLine := merge (byteOf 0 be.mask) p.cacheLine (byteOf 0 v)
      latency := merge (byteOf 1 be.mask &&& 0xF8) p.latency (byteOf 1 v) }
  | 0x10 => { p with windowBase := writeBits be 0xFFC0_0000 p.windowBase v }
  | 0x14 => { p with regBase := writeBits be 0xFFFF_F000 p.regBase v }
  | 0x2C => { p with
      subVendor := merge be.lowHalf p.subVendor (v.extractLsb' 0 16)
      subId := merge be.highHalf p.subId (v.extractLsb' 16 16) }
  | 0x3C => { p with
      intLine := merge (byteOf 0 be.mask) p.intLine (byteOf 0 v)
      minGnt := merge (byteOf 2 be.mask) p.minGnt (byteOf 2 v)
      maxLat := merge (byteOf 3 be.mask) p.maxLat (byteOf 3 v) }
  | 0x40 => { p with pmc := merge (be.highHalf &&& 0xFA08) p.pmc (v.extractLsb' 16 16) }
  | 0x44 => if be.getLsbD 0 then { p with pmcsr := p.powerState v } else p
  | _ => p

/-- P_PPCR written by the VR4120A: PMRDY is stored, PMERQ = 1 sets PMCSR.PME_Status, PMRQ0/1/3 are
write-1-to-clear (R918, R942, R964). -/
def Pci.writePpcr (p : Pci) (be : Lanes) (v : Word) : Pci :=
  let w := v &&& be.mask
  { p with
    ppcr := merge (be.mask &&& 0x8000_0000) (p.ppcr &&& ~~~(w &&& 0x0000_000D)) v
    pmcsr := if w.getLsbD 30 then p.pmcsr ||| 0x8000 else p.pmcsr }

/-- The access column of R904 and R930: P_IGSR and P_PGSR accept words only, the other registers any natural size. The
parenthesis of R233 calls all registers of the block word only; the model follows the table (DESIGN CHOICE, assumption log
58). -/
def pciSizeOk (off : Nat) (be : Lanes) : Bool := if off = 0x1C ∨ off = 0x24 then be == Lanes.word else be.natural

/-- A VR4120A load of the register at offset `off` of the block, of a legal size (R904): P_IGSR is read-clear (R910). -/
def Pci.readReg (nic : Bool) (p : Pci) (off : Nat) (be : Lanes) : DevReply Pci :=
  match off with
  | 0x00 => { dev := p, data := some p.plba }
  | 0x08 => { dev := p, data := some p.ibba }
  | 0x10 => { dev := p, data := some 0x0001_0000 }
  | 0x14 => { dev := p, data := some p.pcar }
  | 0x18 => p.readPcdr nic be
  | 0x1C => { dev := { p with igsr := 0 }, data := some (p.igsrNow nic) }
  | 0x20 => { dev := p, data := some p.iimr }
  | 0x24 => { dev := p, data := some p.pgsr }
  | 0x28 => { dev := p, data := some p.pimr }
  | 0x30 => { dev := p, data := some p.hmcr }
  | 0x40 => { dev := p, data := some p.pwcd }
  | 0x44 => { dev := p, data := some p.pwdd }
  | 0x50 => { dev := p, data := some p.bcnt }
  | 0x54 => { dev := p, data := some p.ppcr }
  | 0x5C => { dev := p, data := some p.rtmr }
  | _ => if 0x100 ≤ off ∧ off < 0x200 then { dev := p, data := some (p.configWord (off - 0x100)) }
         else { dev := p, status := .reserved }

/-- A VR4120A load from the block (R903): a read of P_IGSR clears the whole word, whatever its size. -/
def Pci.read (nic : Bool) (p : Pci) (off : Nat) (be : Lanes) : DevReply Pci :=
  (p.readReg nic off be).sized (pciSizeOk off be)

/-- A VR4120A store to the register at offset `off` of the block, of a legal size (R904–R920). P_SWRR is not accessible
from the internal bus and answers as a reserved area (U59). -/
def Pci.writeReg (nic : Bool) (p : Pci) (off : Nat) (be : Lanes) (v : Word) : DevReply Pci :=
  match off with
  | 0x00 => { dev := { p with plba := writeBits be 0xFFC0_0000 p.plba v } }
  | 0x08 => { dev := { p with ibba := writeBits be 0xFFC0_0000 p.ibba v } }
  | 0x10 => { dev := p }
  | 0x14 => { dev := { p with pcar := writeBits be 0x80FF_FFFF p.pcar v } }
  | 0x18 => { dev := p.writePcdr nic be v }
  | 0x1C => { dev := p }
  | 0x20 => { dev := { p with iimr := writeBits be 0xFFFF_0FFF p.iimr v } }
  | 0x24 => { dev := { p with pgsr := writeBits be 0xFFFF_0200 p.pgsr v } }
  | 0x28 => { dev := { p with pimr := writeBits be 0xFFFF_07FF p.pimr v } }
  | 0x30 => { dev := { p with hmcr := writeBits be 0x8000_0001 p.hmcr v } }
  | 0x40 => { dev := { p with pwcd := writeBits be 0xFF00_FFFF p.pwcd v } }
  | 0x44 => { dev := { p with pwdd := writeBits be 0xFF00_FFFF p.pwdd v } }
  | 0x50 => { dev := { p with bcnt := writeBits be 0x8000_003F p.bcnt v } }
  | 0x54 => { dev := p.writePpcr be v }
  | 0x5C => { dev := { p with rtmr := writeBits be 0xFFFF_FFFF p.rtmr v } }
  | _ => if 0x100 ≤ off ∧ off < 0x200 then { dev := p.writeConfig (off - 0x100) be v }
         else { dev := p, status := .reserved }

/-- A VR4120A store to the block (R903). -/
def Pci.write (nic : Bool) (p : Pci) (off : Nat) (be : Lanes) (v : Word) : DevReply Pci :=
  (p.writeReg nic off be v).sized (pciSizeOk off be)

/-! #### The PCI side (R976) -/

/-- A read by the PCI side of the block's registers: only P_PGSR has a side effect, it is cleared (R912). -/
def Pci.hostRead (p : Pci) (off : Nat) : Pci := if off = 0x24 then { p with pgsr := 0 } else p

/-- A host write of PMCSR (R942, R963): PME_Status is write-1-to-clear, Data_Select and PME_En are stored; a legal
PowerState starts a transition (PMRDY cleared, PMRQx, P_IGSR.PPREQ and P_PGSR.IPREQ set). For the value 10 the flag
`side` says whether the side effects happen all the same (U64). -/
def Pci.hostPmcsr (p : Pci) (be : Lanes) (v : Word) (side : Bool) : Pci :=
  let h : Half := v.extractLsb' 0 16
  let cleared := p.pmcsr &&& ~~~(be.lowHalf &&& 0x8000 &&& h)
  let p1 := { p with pmcsr := merge (be.lowHalf &&& 0x1F00) cleared h }
  if !be.getLsbD 0 then p1
  else
    let legal : Bool := h.extractLsb' 0 2 != (0b10 : BitVec 2)
    let request : Word := match (h.extractLsb' 0 2).toNat with
      | 0 => 0x8 | 1 => 0x4 | 3 => 0x1 | _ => 0
    if legal || side then
      Pci.flag { p1 with
        pmcsr := p1.powerState v
        ppcr := (p1.ppcr &&& ~~~0x8000_0000) ||| request } 0x100 0x400
    else p1

/-- A write by the PCI side of the configuration space (PCI column of R930). -/
def Pci.hostConfig (p : Pci) (off : Nat) (be : Lanes) (v : Word) (side : Bool) : Pci :=
  match off with
  | 0x04 => p.writeCmdStatus be v
  | 0x0C => p.writeConfig 0x0C be v
  | 0x10 => p.writeConfig 0x10 be v
  | 0x14 => p.writeConfig 0x14 be v
  | 0x3C => p.writeConfig 0x3C (be &&& 0x1) v
  | 0x44 => p.hostPmcsr be v side
  | _ => p

/-- A write by the PCI side of the block's registers (PCI column of R904–R920): writing 1s into P_IGSR.IUINT raises
the user-defined interrupts, a write of P_SWRR sets SRREQ (R919, R972). -/
def Pci.hostWrite (p : Pci) (off : Nat) (be : Lanes) (v : Word) (side : Bool) : Pci :=
  match off with
  | 0x00 => { p with plba := writeBits be 0xFFC0_0000 p.plba v }
  | 0x08 => { p with ibba := writeBits be 0xFFC0_0000 p.ibba v }
  | 0x1C => { p with igsr := writeBits be 0xFFFF_0000 p.igsr v }
  | 0x20 => { p with iimr := writeBits be 0xFFFF_0FFF p.iimr v }
  | 0x28 => { p with pimr := writeBits be 0xFFFF_07FF p.pimr v }
  | 0x30 => { p with hmcr := writeBits be 0x0000_0001 p.hmcr v }
  | 0x50 => { p with bcnt := writeBits be 0x0000_003F p.bcnt v }
  | 0x58 => p.flag 0x80 0
  | 0x5C => { p with rtmr := writeBits be 0xFFFF_FFFF p.rtmr v }
  | _ => if 0x100 ≤ off ∧ off < 0x200 then p.hostConfig (off - 0x100) be v side else p

/-- The block looks at the pin PHINT_B (R927): in host mode its assertion sets PINTR, which a read of P_IGSR clears, not the
release of the pin. -/
def Pci.sampleInterrupt (nic : Bool) (p : Pci) : Pci :=
  { p with igsr := Pci.igsrNow nic { p with phint := p.phint || p.phintPin }, phint := p.phintPin }

/-- A PCI master may reach the register at `off`: through the register memory base address while memory accesses are answered,
or, the configuration space in NIC mode, by configuration cycles (R976). -/
def Pci.hostReaches (nic : Bool) (p : Pci) (off : Nat) : Bool :=
  p.memAccess || (nic && decide (0x100 ≤ off) && decide (off < 0x200))

/-- The number of words that a read by a PCI master reads from the internal bus (R955, R956). A cache line of 32 words is read
whole for Memory Read Line, as R955 says, though R7, R901 and R977 bound a burst on the PCI bus by 16 words (DESIGN CHOICE,
assumption log 46). -/
def Pci.prefetchWords (p : Pci) (command : PciCommand) : Nat :=
  if p.bcnt.getLsbD 3 then 1
  else if p.lineWords = 0 then 16
  else match command with
    | .memReadLine => p.lineWords
    | .memReadMultiple => 16
    | _ => 1

/-- The oldest of the writes that have not ended yet ends on the PCI bus (R947, R957 c, R958, R959); with the retry timer off the
controller does not give one up. -/
def Pci.endWrite (nic : Bool) (how : PciWriteEnd) (p : Pci) : Pci :=
  let ended := { p with openWrites := p.openWrites - 1 }
  if p.openWrites = 0 then p
  else match how with
  | .done parity => if parity then ended.masterParity nic else ended
  | .masterAbort => ended.masterAbort nic true
  | .targetAbort => ended.targetAbort nic true
  | .gaveUp => if p.rtmr = 0 then p else ended.gaveUp

/-- One action of the PCI bus on the block itself (R976). Actions of a PCI master need INITD = 1 and
S_GMR.IAEN = 1 (`granted`), and memory access enable = 1 but for configuration cycles; the controller's own discarding of a delayed read
needs no memory access enable (R955); pins act in host mode only. -/
def Pci.event (nic granted : Bool) (e : PciEvent) (p : Pci) : Pci :=
  let claims := granted && p.initDone
  let master := claims && p.memAccess
  let target := claims && (p.memAccess || nic)
  match e with
  | .reply r => { p with replies := p.replies ++ [r] }
  | .phint b => { p with phintPin := b }
  | .serr => if nic then p else p.flag 0x400 0
  | .writeEnd how => p.endWrite nic how
  | .readDiscarded => if p.readAhead.isSome then Pci.flag { p with readAhead := none } 0 0x8 else p
  | .prefetchDiscarded => if claims && p.prefetched.isSome then Pci.flag { p with prefetched := none } 0x10 0 else p
  | .addressParity =>
    if !target then p
    else
      let p1 := (p.flag 0x200 0x110).setStatus nic 0x8800
      if p.command.getLsbD 6 && p.command.getLsbD 8 then (p1.flag 0 0x80).setStatus nic 0x4000 else p1
  | .targetParity => if target then (p.flag 0x200 0x100).setStatus nic 0x8000 else p
  | .busError write =>
    if !master then p
    else if write then p.flag 0x20 0x1
    else if p.bcnt.getLsbD 3 then p.flag 0x40 0x2
    else (p.flag 0x40 0x12).setStatus nic 0x0800
  | .hostRead off => if claims && p.hostReaches nic off then p.hostRead off else p
  | .hostWrite off be v side => if claims && p.hostReaches nic off then p.hostWrite off be v side else p

/-- Cold reset, or warm reset by S_WRCR.PCIWR (R975): every register takes its reset value and the FIFOs are empty; the pin
PHINT_B keeps its level, the answers of the bus to come stay as they are, and what has been issued stays issued. -/
def Pci.warmReset (p : Pci) : Pci :=
  { phintPin := p.phintPin, phint := p.phint, replies := p.replies, issued := p.issued }

end Sys2Proof.Machine
end

