-- ==== Sys2Proof/Machine/Syscon.lean ====
section
/-! DEFINITION. The system controller's own registers, interrupt and NMI controllers, watchdog
(spec/50_platform_syscon.md). The UART, the timers and the Micro Wire block have files of their own. -/
namespace Sys2Proof.Machine

/-- The bit of a block in S_WRCR, S_WRSR and the low half of S_PWCR (R510–R513). -/
def Block.bit : Block → Nat
  | .usb => 0 | .eth1 => 1 | .atm => 2 | .eth2 => 3 | .uart => 4 | .pci => 5

/-- S_PWCR.xSTOP: the block's clock is stopped (R512). The UART has no such bit. -/
def Syscon.stopped (y : Syscon) (b : Block) : Bool := b != .uart && y.pwcr.getLsbD (16 + b.bit)

/-- S_GMR.IAEN: the IBUS arbiter grants the other masters (R503). -/
def Syscon.iaen (y : Syscon) : Bool := y.gmr.getLsbD 1

/-- intb[3] asserted (R523). -/
def Syscon.intb3 (y : Syscon) : Bool := (y.isr &&& y.imr &&& 0x1F) != 0

/-- nmib asserted (R530). -/
def Syscon.nmib (y : Syscon) : Bool := (y.nsr &&& y.ner &&& 0x3F) != 0

/-- Set bits of S_NSR (R531). -/
def Syscon.nmiCause (y : Syscon) (bits : Word) : Syscon := { y with nsr := y.nsr ||| bits }

/-- S_NSR.CBERR (R531). -/
def nsrCBERR : Word := 0x01
/-- S_NSR.IBERR (R531). -/
def nsrIBERR : Word := 0x02
/-- S_NSR.ITERR (R531). -/
def nsrITERR : Word := 0x04
/-- S_NSR.MAERR (R531). -/
def nsrMAERR : Word := 0x08
/-- S_NSR.EXTNMI (R531). -/
def nsrEXTNMI : Word := 0x10
/-- S_NSR.IRERR (R531). -/
def nsrIRERR : Word := 0x20

/-- S_PWCR.xIDRQ: the block is asked to become idle (R512). -/
def Syscon.idleRequested (y : Syscon) (b : Block) : Bool := b != .uart && y.pwcr.getLsbD b.bit

/-- The block holds still: asked to become idle, it has answered that it is (R512, R513). -/
def Syscon.held (y : Syscon) (b : Block) : Bool := y.idleRequested b && y.pwsr.getLsbD b.bit

/-- Edge capture of the S_ISR sources (R521, decision D20): a source sets its bit when it rises. Any rising wake-up
bit (positions 13:8 of `src`) sets WUIS. -/
def Syscon.capture (y : Syscon) (src : Word) : Syscon :=
  let rising := src &&& ~~~y.sources
  { y with
    isr := y.isr ||| (rising &&& 0x0003_000C) ||| (if (rising &&& 0x3F00) != 0 then 0x10 else 0)
    sources := src }

/-- `n` clocks of the watchdog counter (R564): the registers, and whether the counter reached DSUSETR on the way. The settable
range is 1 to 2^32 - 1 (R561); DEDTIM = 0 is stored too. The counter reaches DEDTIM where an increment makes the two equal: DEDTIM = 0,
and a value that the running counter has passed or stands at when it is written, only after a wrap (DESIGN CHOICE, assumption log
70). -/
def Syscon.watchdog (n : Nat) (y : Syscon) : Syscon × Bool :=
  if y.dsucntr.getLsbD 0 then
    ({ y with dsutimr := y.dsutimr + BitVec.ofNat 32 n }, decide ((y.dsusetr - y.dsutimr - 1).toNat < n))
  else (y, false)

/-- S_GSR: the strap pins CLKSL and ENDCEN; MIPS16 reads 0 (R506). -/
def gsrValue (clksl endcen : Bool) : Word := (if clksl then 2 else 0) ||| (if endcen then 1 else 0)

/-- A load of the system controller register at `off` (R501). S_ISR and S_NSR are read-clear, exactly the bytes read
(decision D21); SDRCR reads some value in 0..RCSET (decision D23). What a load of the write-only DSUCLRR returns is not stated
(R562): 0, as its reset value (DESIGN CHOICE, assumption log 70). 1000_00A0H to 1000_00ACH are the watchdog registers of R501 and R560 to
R563, although R981 calls these addresses reserved (DEDUCED, assumption log 72). -/
def Syscon.read (clksl endcen : Bool) (y : Syscon) (off : Nat) (be : Lanes) : DevReply Syscon :=
  match off with
  | 0x000 => { dev := y, data := some y.gmr }
  | 0x004 => { dev := y, data := some (gsrValue clksl endcen) }
  | 0x008 => { dev := { y with isr := y.isr &&& ~~~be.mask }, data := some y.isr }
  | 0x00C => { dev := y, data := some y.imr }
  | 0x010 => { dev := { y with nsr := y.nsr &&& ~~~be.mask }, data := some y.nsr }
  | 0x014 => { dev := y, data := some y.ner }
  | 0x018 => { dev := y, data := some 0x0000_0300 }
  | 0x01C => { dev := y, data := some y.ior }
  | 0x030 => { dev := y, data := some 0 }
  | 0x034 => { dev := y, data := some y.wrsr }
  | 0x038 => { dev := y, data := some y.pwcr }
  | 0x03C => { dev := y, data := some y.pwsr }
  | 0x04C => { dev := y, data := some y.itcntr }
  | 0x050 => { dev := y, data := some y.itsetr }
  | 0x0A0 => { dev := y, data := some y.dsucntr }
  | 0x0A4 => { dev := y, data := some y.dsusetr }
  | 0x0A8 => { dev := y, data := some 0 }
  | 0x0AC => { dev := y, data := some y.dsutimr }
  | 0x100 => { dev := y, data := some y.rmmdr }
  | 0x104 => { dev := y, data := some y.rmatr }
  | 0x108 => { dev := y, data := some y.sdmdr }
  | 0x10C => { dev := y, data := some y.sdtsr }
  | 0x110 => { dev := y, data := some y.sdptr }
  | 0x11C => { dev := y, data := some y.sdrmr }
  | 0x120 => { dev := y, data := none, limit := (y.sdrmr &&& 0xFFFF).toNat }
  | 0x124 => { dev := y, data := some y.mbcr }
  | _ => { dev := y, status := .reserved }

/-- A store to the system controller register at `off` (R501; the watchdog registers: assumption log 72). S_WRCR's effect on the blocks
themselves is `State.writeSyscon`'s. CRST = 1 asks for a cold reset (R503). -/
def Syscon.write (y : Syscon) (off : Nat) (be : Lanes) (v : Word) : DevReply Syscon :=
  match off with
  | 0x000 =>
    { dev := { y with
        gmr := writeBits be 0x0000_030E y.gmr v
        resetRequest := y.resetRequest || (be.getLsbD 0 && v.getLsbD 0) } }
  | 0x004 => { dev := y }
  | 0x008 => { dev := y }
  | 0x00C => { dev := { y with imr := writeBits be 0x0000_001F y.imr v } }
  | 0x010 => { dev := y }
  | 0x014 => { dev := { y with ner := writeBits be 0x0000_003F y.ner v } }
  | 0x018 => { dev := y }
  | 0x01C => { dev := { y with ior := writeBits be 0x0000_00FF y.ior v } }
  | 0x030 => { dev := { y with wrsr := y.wrsr &&& ~~~(v &&& be.mask &&& 0x3F) } }
  | 0x034 => { dev := y }
  | 0x038 => { dev := { y with pwcr := writeBits be 0x002F_002F y.pwcr v } }
  | 0x03C => { dev := y }
  | 0x04C => { dev := { y with itcntr := writeBits be 0x0000_0001 y.itcntr v } }
  | 0x050 => { dev := { y with itsetr := writeBits be 0xFFFF_FFFF y.itsetr v } }
  | 0x0A0 =>
    let c := writeBits be 0x0000_0001 y.dsucntr v
    { dev := { y with dsucntr := c, dsutimr := if c.getLsbD 0 then y.dsutimr else 0 } }
  | 0x0A4 => { dev := { y with dsusetr := writeBits be 0xFFFF_FFFF y.dsusetr v } }
  | 0x0A8 => { dev := { y with dsutimr := if be.getLsbD 0 && v.getLsbD 0 then 0 else y.dsutimr } }
  | 0x0AC => { dev := y }
  | 0x100 => { dev := { y with rmmdr := writeBits be 0x0000_0103 y.rmmdr v } }
  | 0x104 => { dev := { y with rmatr := writeBits be 0x0000_0007 y.rmatr v } }
  | 0x108 => { dev := { y with sdmdr := writeBits be 0x0000_0377 y.sdmdr v } }
  | 0x10C => { dev := { y with sdtsr := writeBits be 0x0000_03F3 y.sdtsr v } }
  | 0x110 => { dev := { y with sdptr := writeBits be 0x0000_0173 y.sdptr v } }
  | 0x11C =>
    let w := writeBits be 0x0000_FF00 y.sdrmr v
    { dev := { y with sdrmr := if w = 0 then 0x0000_0200 else w } }
  | 0x120 => { dev := y }
  | 0x124 => { dev := { y with mbcr := writeBits be 0x0000_0001 y.mbcr v } }
  | _ => { dev := y, status := .reserved }

/-- S_PWSR.ATMWKUP, the inverse of the pin UMINT_B, in a value of S_PWSR (R513, R680). -/
def pwsrWithUmint (asserted : Bool) (pwsr : Word) : Word := setBit pwsr 10 asserted

/-- One event that reaches the system controller. An assertion of EXNMI_B sets EXTNMI (R531). A block becomes idle only
when it is asked to (R512); ATMWKUP follows its pin alone (R513). A stall sets ITERR only while the IBUS timer is enabled
(R536); what becomes of the stalled transfer is not stated (N26): the model lets it complete (DESIGN CHOICE, assumption log
62). -/
def Syscon.event (e : SysEvent) (y : Syscon) : Syscon :=
  match e with
  | .exint b => { y with exint := b }
  | .exnmi b => { (if b && !y.exnmi then y.nmiCause nsrEXTNMI else y) with exnmi := b }
  | .ready b => { y with wrsr := setBit y.wrsr b.bit true }
  | .idle b v =>
    if b = .uart || (v && !y.idleRequested b) then y else { y with pwsr := setBit y.pwsr b.bit v }
  | .wakeup b v => if b = .uart || b = .atm then y else { y with pwsr := setBit y.pwsr (8 + b.bit) v }
  | .umint b => { y with umint := b, pwsr := pwsrWithUmint b y.pwsr }
  | .ibusStall => if y.itcntr.getLsbD 0 then y.nmiCause nsrITERR else y

/-- Cold reset (R501, R571): every register takes its reset value; the pins keep their levels, and ATMWKUP shows its own
(R513). S_ISR is 0 and a source sets its bit at an edge only (R521, decision D20), so the pins' levels stay the last ones seen: a
pin that is merely held across the reset sets no bit. -/
def Syscon.coldReset (y : Syscon) : Syscon :=
  { exint := y.exint, exnmi := y.exnmi, umint := y.umint, pwsr := pwsrWithUmint y.umint 0x0000_0020,
    sources := (if y.exint then 0x08 else 0) ||| (if y.umint then 0x0400 else 0) }

/-- The size of the SDRAM in bytes that SDTSR.SDS configures (R545). -/
def Syscon.sdramSize (y : Syscon) : Nat :=
  match (y.sdtsr.extractLsb' 8 2).toNat with
  | 0 => 0x0040_0000 | 1 => 0x0080_0000 | 2 => 0x0100_0000 | _ => 0x0200_0000

/-- The lowest and the highest physical address that RMMDR.FSM configures as boot ROM (R540, R542). -/
def Syscon.romRange (y : Syscon) : Nat × Nat :=
  match (y.rmmdr.extractLsb' 0 2).toNat with
  | 0 => (0x1FC0_0000, 0x1FFF_FFFF)
  | 1 => (0x1F80_0000, 0x1FFF_FFFF)
  | 2 => (0x1FC0_0000, 0x1FCF_FFFF)
  | _ => (0x1FC0_0000, 0x1FDF_FFFF)

end Sys2Proof.Machine
end

