-- ==== Sys2Proof/Machine/Timer.lean ====
section
/-! DEFINITION. The two general-purpose timers (spec/55_platform_uart_timer_microwire.md §3). -/
namespace Sys2Proof.Machine

/-- The value loaded on a start or a reload: TMnCSR − 1 (R1014); for TMnCSR = 0 a value the spec leaves open (U70). -/
def timerReload (csr : Word) (free : Nat) : Word :=
  if csr = 0 then Config.timerZeroReload free else csr - 1

/-- `n` clocks of an enabled down-counter `c` with reload value `r` (R1014): the new count and whether a time-out
event happened. A count of 0 reloads at the next clock. -/
def timerCount (n : Nat) (c r : Word) : Word × Bool :=
  if n ≤ c.toNat then (c - BitVec.ofNat 32 n, false)
  else (r - BitVec.ofNat 32 ((n - c.toNat - 1) % (r.toNat + 1)), true)

/-- `n` CPU clocks of both timers (R1014): the timers and the time-out events as S_ISR bits 1:0 (R1015). -/
def Timers.tick (n free : Nat) (t : Timers) : Timers × Word :=
  let r0 := if t.tmmr.getLsbD 0 then timerCount n t.ccr0 (timerReload t.csr0 free) else (t.ccr0, false)
  let r1 := if t.tmmr.getLsbD 8 then timerCount n t.ccr1 (timerReload t.csr1 free) else (t.ccr1, false)
  ({ t with ccr0 := r0.1, ccr1 := r1.1 }, (if r0.2 then 1 else 0) ||| (if r1.2 then 2 else 0))

/-- A load from the timer register at `off` = 00H..10H from 1000_00B0H (R1010). -/
def Timers.read (t : Timers) (off : Nat) : Word :=
  match off with
  | 0x00 => t.tmmr
  | 0x04 => t.csr0
  | 0x08 => t.csr1
  | 0x0C => t.ccr0
  | _ => t.ccr1

/-- A store to the timer register at `off` (R1010–R1014): enabling a channel loads its counter; TMnCCR are read-only. -/
def Timers.write (t : Timers) (off : Nat) (be : Lanes) (v : Word) (free : Nat) : Timers :=
  match off with
  | 0x00 =>
    let m := writeBits be 0x0000_0101 t.tmmr v
    { t with
      tmmr := m
      ccr0 := if !t.tmmr.getLsbD 0 && m.getLsbD 0 then timerReload t.csr0 free else t.ccr0
      ccr1 := if !t.tmmr.getLsbD 8 && m.getLsbD 8 then timerReload t.csr1 free else t.ccr1 }
  | 0x04 => { t with csr0 := writeBits be 0xFFFF_FFFF t.csr0 v }
  | 0x08 => { t with csr1 := writeBits be 0xFFFF_FFFF t.csr1 v }
  | _ => t

end Sys2Proof.Machine
end

