-- ==== Sys2Proof/Machine/Uart.lean ====
section
/-! DEFINITION. The UART (spec/55_platform_uart_timer_microwire.md §2): registers, interrupt request, and the
actions of the serial line (R996). -/
namespace Sys2Proof.Machine

/-- UARTLCR.DLAB (R988). -/
def Uart.dlab (u : Uart) : Bool := u.lcr.getLsbD 7

/-- The capacity of the receive and of the transmit queue: 1 in 16450 mode, 16 in FIFO mode (R987, R996). -/
def Uart.depth (u : Uart) : Nat := if u.fifo then 16 else 1

/-- The receive FIFO trigger level (R987). -/
def Uart.triggerLevel (u : Uart) : Nat :=
  match u.trigger.toNat with
  | 0 => 1 | 1 => 4 | 2 => 8 | _ => 14

/-- A byte reduced to the character length of UARTLCR.WLS (R988, R996). -/
def Uart.charMask (u : Uart) (b : Byte) : Byte :=
  match (u.lcr.extractLsb' 0 2).toNat with
  | 0 => b &&& 0x1F | 1 => b &&& 0x3F | 2 => b &&& 0x7F | _ => b

/-- UARTLSR.THRE (R990). -/
def Uart.thre (u : Uart) : Bool := u.tx.isEmpty

/-- UARTLSR (R990). PE, FE and BI describe the head of the receive queue; RFERR is 0 in 16450 mode. -/
def Uart.lsr (u : Uart) : Byte :=
  let head := u.rx.head?
  (if u.fifo && u.rx.any (fun c => c.pe || c.fe || c.bi) then 0x80 else 0) |||
  (if u.tx.isEmpty && u.shift.isNone then 0x40 else 0) |||
  (if u.thre then 0x20 else 0) |||
  (if head.any (·.bi) then 0x10 else 0) |||
  (if head.any (·.fe) then 0x08 else 0) |||
  (if head.any (·.pe) then 0x04 else 0) |||
  (if u.oe then 0x02 else 0) |||
  (if u.rx.isEmpty then 0 else 0x01)

/-- UARTMCR.LOOP (R989). The spec names a loop-back test and gives no effect (U67); the model takes that of the NS16550D, to
which the spec refers (R996): what is sent is received, the line is not heard, and UARTMSR shows UARTMCR's own outputs
(PRESUMED, assumption log 56). -/
def Uart.loop (u : Uart) : Bool := u.mcr.getLsbD 4

/-- CTS, DSR and DCD: the complements of the pins (R991); in loop-back RTS, DTR and 0. -/
def Uart.modem (u : Uart) : Bool × Bool × Bool :=
  if u.loop then (u.mcr.getLsbD 1, u.mcr.getLsbD 0, false) else (u.cts, u.dsr, u.dcd)

/-- UARTMSR (R991): the modem inputs and the delta bits. -/
def Uart.msr (u : Uart) : Byte :=
  (if u.modem.2.2 then 0x80 else 0) ||| (if u.modem.2.1 then 0x20 else 0) ||| (if u.modem.1 then 0x10 else 0) |||
  (if u.ddcd then 0x08 else 0) ||| (if u.ddsr then 0x02 else 0) ||| (if u.dcts then 0x01 else 0)

/-- The pending interrupt cause of highest priority as UIID, `none` if there is none (R986). -/
def Uart.cause (u : Uart) : Option (BitVec 3) :=
  if u.ier.getLsbD 2 && (u.lsr &&& 0x1E) != 0 then some 0b011
  else if u.ier.getLsbD 0 && (if u.fifo then decide (u.triggerLevel ≤ u.rx.length) else !u.rx.isEmpty) then some 0b010
  else if u.ier.getLsbD 0 && u.fifo && u.rxTimeout && !u.rx.isEmpty then some 0b110
  else if u.ier.getLsbD 1 && u.thrPending then some 0b001
  else if u.ier.getLsbD 3 && (u.dcts || u.ddsr || u.ddcd) then some 0b000
  else none

/-- UARTIIR (R986). -/
def Uart.iir (u : Uart) : Byte :=
  (if u.fifo then 0xC0 else 0) |||
  (match u.cause with
   | some id => ((0 : BitVec 4) ++ (id ++ (0 : BitVec 1) : BitVec 4) : BitVec 8)
   | none => 0x01)

/-- `uart_int` (R993). -/
def Uart.intr (u : Uart) : Bool := u.cause.isSome

/-- A register byte in bits 7:0 of a word. -/
def byteWord (b : Byte) : Word := b.zeroExtend 32

/-- A load of the UART register at `off` = 00H..1CH from 1000_0080H (R981). Reading UARTRBR takes the oldest
character out, and answers an unspecified byte when there is none (R982, R996); reading UARTIIR with UIID = 001
clears the THR-empty cause (R986); reading UARTLSR clears OE, PE, FE and BI (R990); reading UARTMSR clears the delta
bits (R991). A load that does not touch lane 0 reads reserved bits and has no side effect. -/
def Uart.read (u : Uart) (off : Nat) (be : Lanes) : DevReply Uart :=
  if !be.getLsbD 0 then { dev := u, data := some 0 }
  else match off with
  | 0x00 =>
    if u.dlab then { dev := u, data := some (byteWord u.dll) }
    else match u.rx with
      | [] => { dev := u, data := none, limit := 255 }
      | c :: rest => { dev := { u with rx := rest, rxTimeout := false }, data := some (byteWord c.data) }
  | 0x04 => { dev := u, data := some (byteWord (if u.dlab then u.dlm else u.ier)) }
  | 0x08 =>
    { dev := if u.cause = some 0b001 then { u with thrPending := false } else u
      data := some (byteWord u.iir) }
  | 0x0C => { dev := u, data := some (byteWord u.lcr) }
  | 0x10 => { dev := u, data := some (byteWord u.mcr) }
  | 0x14 =>
    { dev := { u with
        oe := false
        rx := match u.rx with
          | [] => []
          | c :: rest => { data := c.data } :: rest }
      data := some (byteWord u.lsr) }
  | 0x18 => { dev := { u with dcts := false, ddsr := false, ddcd := false }, data := some (byteWord u.msr) }
  | _ => { dev := u, data := some (byteWord u.scr) }

/-- The transmit queue after a store to UARTTHR (R983, R996): the character stands last; of a store into a full queue
only that the queue stays full is determined. -/
def Uart.enqueue (u : Uart) (c : Byte) : List Byte :=
  if u.tx.length < u.depth then u.tx ++ [c] else (List.range u.depth).map (Config.uartOverrun u.tx c)

/-- A store of UARTFCR (R987): disabling the FIFOs clears them; UTFRST and URFRST act at the write. -/
def Uart.writeFcr (u : Uart) (b : Byte) : Uart :=
  let en := b.getLsbD 0
  let u1 := { u with fifo := en, fifomd := b.getLsbD 3, trigger := b.extractLsb' 6 2 }
  let u2 := if !en || b.getLsbD 1 then { u1 with rx := [], rxTimeout := false } else u1
  if !en || b.getLsbD 2 then
    { u2 with tx := [], thrPending := u2.thrPending || !u2.tx.isEmpty }
  else u2

/-- The modem inputs that have changed set their delta bits (R991). -/
def Uart.modemChange (before after : Uart) : Uart :=
  { after with
    dcts := after.dcts || before.modem.1 != after.modem.1
    ddsr := after.ddsr || before.modem.2.1 != after.modem.2.1
    ddcd := after.ddcd || before.modem.2.2 != after.modem.2.2 }

/-- A character reaches the receiver (R996): into the receive queue, or lost with OE. UARTLCR.PEN = 0: no parity checking
(R988). -/
def Uart.receive (u : Uart) (c : RxChar) : Uart :=
  if u.rx.length < u.depth then
    { u with rx := u.rx ++ [{ c with data := u.charMask c.data, pe := c.pe && u.lcr.getLsbD 3 }], rxTimeout := false }
  else { u with oe := true }

/-- A store to the UART register at `off` from 1000_0080H (R981). Writes of UARTLSR and UARTMSR are ignored (U68). -/
def Uart.write (u : Uart) (off : Nat) (be : Lanes) (v : Word) : DevReply Uart :=
  let b := byteOf 0 v
  if !be.getLsbD 0 then { dev := u }
  else match off with
  | 0x00 =>
    if u.dlab then { dev := { u with dll := b } }
    else { dev := { u with tx := u.enqueue (u.charMask b), thrPending := false } }
  | 0x04 =>
    if u.dlab then { dev := { u with dlm := b } }
    else { dev := { u with
        ier := b &&& 0x0F
        thrPending := u.thrPending || (!u.ier.getLsbD 1 && b.getLsbD 1 && u.thre) } }
  | 0x08 => { dev := u.writeFcr b }
  | 0x0C => { dev := { u with lcr := b } }
  | 0x10 => { dev := u.modemChange { u with mcr := b &&& 0x13 } }
  | 0x14 => { dev := u }
  | 0x18 => { dev := u }
  | _ => { dev := { u with scr := b } }

/-- One action of the serial line (R996). -/
def Uart.event (e : UartEvent) (u : Uart) : Uart :=
  match e with
  | .txStart =>
    match u.shift, u.tx with
    | none, c :: rest => { u with shift := some c, tx := rest, thrPending := u.thrPending || rest.isEmpty }
    | _, _ => u
  | .txDone =>
    match u.shift with
    | some c =>
      if u.loop then { u with shift := none }.receive { data := c }
      else { u with shift := none, sent := c :: u.sent }
    | none => u
  | .receive c => if u.loop then u else u.receive c
  | .timeout => if u.fifo && !u.rx.isEmpty then { u with rxTimeout := true } else u
  | .modem cts dsr dcd => u.modemChange { u with cts := cts, dsr := dsr, dcd := dcd }

/-- Reset of the block, cold or by S_WRCR.UARTWR (R995): the registers with a stated default take it, the pins keep
their levels, the registers without one (divisor, scratch) and the trace of sent characters stay. -/
def Uart.warmReset (u : Uart) : Uart :=
  { dll := u.dll, dlm := u.dlm, scr := u.scr, sent := u.sent, cts := u.cts, dsr := u.dsr, dcd := u.dcd }

end Sys2Proof.Machine
end

