-- ==== Sys2Proof/Machine/Usb.lean ====
section
/-! DEFINITION. The registers, the commands and the interrupt request of the USB controller (spec/53_platform_usb.md). What
the block does on its own is in `UsbDma.lean`. -/
namespace Sys2Proof.Machine

/-- `gsr2_cond` (R812). -/
def Usb.gsr2Cond (u : Usb) : Bool := (u.gsr2 &&& u.imr2) != 0

/-- U_GSR1 as it reads: GSR2 is set whenever `gsr2_cond` holds (R812, decision D53). -/
def Usb.gsr1Now (u : Usb) : Word := u.gsr1 ||| (if u.gsr2Cond then 0x8000_0000 else 0)

/-- U_GSR1 takes the bit GSR2 while its condition holds, so that the bit stays when the condition ends (R808, R812). -/
def Usb.latchGsr2 (u : Usb) : Usb := { u with gsr1 := u.gsr1Now }

/-- `usb_int` (R812). -/
def Usb.intr (u : Usb) : Bool := (u.gsr1Now &&& u.imr1) != 0

/-- U_TEPSR (R822). -/
def Usb.tepsr (u : Usb) : Word :=
  BitVec.ofNat 32 (u.txQueue[0].length % 4) ||| BitVec.ofNat 32 (u.txQueue[1].length % 4) <<< 8 |||
  BitVec.ofNat 32 (u.txQueue[2].length % 4) <<< 16 ||| BitVec.ofNat 32 (u.txQueue[3].length % 4) <<< 24

/-- The writable bits of U_EPnCR (R813–R819). FM of U_EP5CR, feedback mode, is stored without an effect: the spec says nothing of the mode
(R818, N45; DESIGN CHOICE, assumption log 77). -/
def usbEpMask : Vector Word 7 :=
  #v[0x801F_007F, 0x8008_03FF, 0x8018_03FF, 0x800D_007F, 0x801F_007F, 0x800D_007F, 0x8007_007F]

/-- The endpoint register an offset from 20H to 38H addresses. -/
def usbEpIndex (off : Nat) : Fin 7 := ⟨(off - 0x20) / 4 % 7, Nat.mod_lt _ (by decide)⟩

/-- The pool whose information or address register an offset from 50H to 64H addresses. -/
def usbPoolIndex (off : Nat) : Fin 3 := ⟨(off - 0x50) / 8 % 3, Nat.mod_lt _ (by decide)⟩

/-- The access column of R805: U_GSR1, U_GSR2 and U_CMR accept words only, the other registers any natural size. The
parenthesis of R233 calls all registers of the block word only; the model follows the table (DESIGN CHOICE, assumption log
58). -/
def usbSizeOk (off : Nat) (be : Lanes) : Bool :=
  if off = 0x10 ∨ off = 0x18 ∨ off = 0x40 then be == Lanes.word else be.natural

/-- A load of the register at `off`, of a legal size (R805). U_GSR1 and U_GSR2 are read-clear. -/
def Usb.readReg (u : Usb) (off : Nat) : DevReply Usb :=
  match off with
  | 0x00 => { dev := u, data := some u.gmr }
  | 0x04 => { dev := u, data := some (0x0201_0000 ||| u.ufnr.zeroExtend 32) }
  | 0x10 => { dev := { u with gsr1 := 0 }, data := some u.gsr1Now }
  | 0x14 => { dev := u, data := some u.imr1 }
  | 0x18 => { dev := { u.latchGsr2 with gsr2 := 0 }, data := some u.gsr2 }
  | 0x1C => { dev := u, data := some u.imr2 }
  | 0x40 => { dev := u, data := some u.cmr }
  | 0x44 => { dev := u, data := some u.ca }
  | 0x48 => { dev := u, data := some u.tepsr }
  | 0x70 => { dev := u, data := some u.tmsa }
  | 0x74 => { dev := u, data := some u.tmba }
  | 0x78 => { dev := u, data := some u.tmra }
  | 0x7C => { dev := u, data := some u.tmwa }
  | 0x80 => { dev := u, data := some u.rmsa }
  | 0x84 => { dev := u, data := some u.rmba }
  | 0x88 => { dev := u, data := some u.rmra }
  | 0x8C => { dev := u, data := some u.rmwa }
  | o =>
    if 0x20 ≤ o ∧ o < 0x3C then { dev := u, data := some u.epcr[usbEpIndex o] }
    else if 0x50 ≤ o ∧ o < 0x68 then
      { dev := u, data := some (if o % 8 = 0 then u.rpir[usbPoolIndex o] else u.rpar[usbPoolIndex o]) }
    else { dev := u, status := .reserved }

/-- A load from the block (R804). -/
def Usb.read (u : Usb) (off : Nat) (be : Lanes) : DevReply Usb := (u.readReg off).sized (usbSizeOk off be)

/-- A store to U_CMR (R820): invalid while B = 1. -/
def Usb.writeCmr (u : Usb) (v : Word) : Usb :=
  if u.cmr.getLsbD 31 then u else { u with cmr := 0x8000_0000 ||| (v &&& 0x0700_FFFF) }

/-- The first write of U_TMSA after reset is copied to U_TMRA and U_TMWA (R825). -/
def Usb.writeTmsa (u : Usb) (be : Lanes) (v : Word) : Usb :=
  let w := writeBits be 0xFFFF_FFFF u.tmsa v
  if u.tmsaWritten then { u with tmsa := w }
  else { u with tmsa := w, tmra := w, tmwa := w, tmsaWritten := true }

/-- The first write of U_RMSA after reset is copied to U_RMRA and U_RMWA (R825). -/
def Usb.writeRmsa (u : Usb) (be : Lanes) (v : Word) : Usb :=
  let w := writeBits be 0xFFFF_FFFF u.rmsa v
  if u.rmsaWritten then { u with rmsa := w }
  else { u with rmsa := w, rmra := w, rmwa := w, rmsaWritten := true }

/-- A store to the register at `off`, of a legal size (R805–R825). The writes that R871 does not allow while the USB is
suspended take effect all the same (U58; DESIGN CHOICE, assumption log 50). -/
def Usb.writeReg (u : Usb) (off : Nat) (be : Lanes) (v : Word) : DevReply Usb :=
  match off with
  | 0x00 => { dev := { u with gmr := writeBits be 0x00FF_FF07 u.gmr v } }
  | 0x04 => { dev := u }
  | 0x10 => { dev := u }
  | 0x14 => { dev := { u with imr1 := writeBits be 0x80FF_07FF u.imr1 v } }
  | 0x18 => { dev := u }
  | 0x1C => { dev := { u.latchGsr2 with imr2 := writeBits be 0x003F_00FF u.imr2 v } }
  | 0x40 => { dev := u.writeCmr v }
  | 0x44 => { dev := { u with ca := writeBits be 0xFFFF_FFFF u.ca v } }
  | 0x48 => { dev := u }
  | 0x70 => { dev := u.writeTmsa be v }
  | 0x74 => { dev := { u with tmba := writeBits be 0xFFFF_FFFF u.tmba v } }
  | 0x78 => { dev := { u with tmra := writeBits be 0xFFFF_FFFF u.tmra v, tmFull := false } }
  | 0x7C => { dev := u }
  | 0x80 => { dev := u.writeRmsa be v }
  | 0x84 => { dev := { u with rmba := writeBits be 0xFFFF_FFFF u.rmba v } }
  | 0x88 => { dev := { u with rmra := writeBits be 0xFFFF_FFFF u.rmra v, rmFull := false } }
  | 0x8C => { dev := u }
  | o =>
    if 0x20 ≤ o ∧ o < 0x3C then
      let i := usbEpIndex o
      { dev := { u with epcr := u.epcr.set i (writeBits be usbEpMask[i] u.epcr[i] v) } }
    else if 0x50 ≤ o ∧ o < 0x68 then
      if o % 8 = 0 then
        let i := usbPoolIndex o
        { dev := { u with rpir := u.rpir.set i (writeBits be 0x7000_0000 u.rpir[i] v) } }
      else { dev := u }
    else { dev := u, status := .reserved }

/-- A store to the block (R804). -/
def Usb.write (u : Usb) (off : Nat) (be : Lanes) (v : Word) : DevReply Usb := (u.writeReg off be v).sized (usbSizeOk off be)

/-- RNOD of pool `p` (R823). -/
def Usb.rnod (u : Usb) (p : Fin 3) : Nat := (u.rpir[p].extractLsb' 0 16).toNat

/-- The alert level AL of pool `p` (R823). -/
def Usb.alert (u : Usb) (p : Fin 3) : Nat := (u.rpir[p].extractLsb' 28 3).toNat

/-- The add command (R847): `n` directories join pool `p`; an empty pool starts with the directory at U_CA. RNOD takes the
sum modulo 2^16: what becomes of one above 65535 is not stated (U57; DESIGN CHOICE, assumption log 77). -/
def Usb.addDirectories (p : Fin 3) (n : Half) (u : Usb) : Usb :=
  if u.rnod p = 0 then
    { u with
      rpir := u.rpir.set p (merge 0x0000_FFFF u.rpir[p] (n.zeroExtend 32))
      rpar := u.rpar.set p u.ca
      rxEntry := u.rxEntry.set p u.ca }
  else { u with rpir := u.rpir.set p (merge 0x0000_FFFF u.rpir[p] (u.rpir[p] + n.zeroExtend 32)) }

/-- Execute the pending command (R839 steps 3–5, R847): an add command enters the directories into the pool; a
transmit command is scheduled as soon as its endpoint holds fewer than two segments. The prohibited code 111 does nothing but
clear B (U55; DESIGN CHOICE, assumption log 50). -/
def Usb.execute (u : Usb) : Usb :=
  if !u.cmr.getLsbD 31 then u
  else
    let n : Half := u.cmr.extractLsb' 0 16
    let done := { u with cmr := u.cmr &&& 0x7FFF_FFFF }
    let send (q : Fin 4) : Usb :=
      if u.txQueue[q].length < 2 then { done with txQueue := u.txQueue.set q (u.txQueue[q] ++ [(u.ca, n)]) } else u
    match (u.cmr.extractLsb' 24 3).toNat with
    | 0 => send 0 | 1 => send 1 | 2 => send 2 | 3 => send 3
    | 4 => done.addDirectories 0 n | 5 => done.addDirectories 1 n | 6 => done.addDirectories 2 n
    | _ => done

/-- Cold reset, or warm reset by S_WRCR.USBWR (R880); the packets that have left stay sent. -/
def Usb.warmReset (u : Usb) : Usb := { sent := u.sent }

end Sys2Proof.Machine
end

