-- ==== Sys2Proof/Machine/Ops.lean ====
section
/-! DEFINITION. The named operations over registers and memory, taking an exception and returning from one, reset and NMI,
and how an instruction completes (spec/10_state.md, spec/60_exceptions.md). -/
namespace Sys2Proof.Machine

/-! ### Results -/

/-- The exceptions of R1102 other than Cold Reset and NMI. `va` is the failing virtual address. -/
inductive Exc where
  /-- Interrupt. -/
  | int
  /-- TLB Modified. -/
  | mod (va : Dword)
  /-- TLB Refill or XTLB Refill: `store` tells TLBS from TLBL. -/
  | tlbRefill (store : Bool) (va : Dword)
  /-- TLB Invalid. -/
  | tlbInvalid (store : Bool) (va : Dword)
  /-- Address Error: AdES for a store, else AdEL. -/
  | addressError (store : Bool) (va : Dword)
  /-- Bus Error on an instruction fetch. -/
  | ibe
  /-- Bus Error on a data access. -/
  | dbe
  /-- System Call. -/
  | sys
  /-- Breakpoint. -/
  | bp
  /-- Reserved Instruction. -/
  | ri
  /-- Coprocessor Unusable, with the coprocessor number. -/
  | cpu (unit : BitVec 2)
  /-- Integer Overflow. -/
  | ov
  /-- Trap. -/
  | tr
  /-- Watch. -/
  | watch
deriving DecidableEq, Repr

/-- The result of an operation: a value and the state, an exception to be taken in a state, or a stop. -/
inductive Res (α : Type) where
  /-- The operation is done. -/
  | ok (a : α) (s : State)
  /-- An exception is raised; `s` holds what has happened before it outside the core. -/
  | raise (e : Exc) (s : State)
  /-- The machine stops with a fault. -/
  | fault (f : Fault)
deriving Repr

/-- Go on with the value and the state of a result. -/
def Res.bind {α β : Type} (x : Res α) (f : α → State → Res β) : Res β :=
  match x with
  | .ok a s => f a s
  | .raise e s => .raise e s
  | .fault g => .fault g

/-- The outcome of an instruction or a step. -/
abbrev Out := Host.Outcome State Fault Refusal

/-! ### Registers -/

/-- GPR[r]: register 0 reads 0 (R21). -/
def State.getReg (s : State) (r : Reg) : Dword := if r = 0 then 0 else s.gpr[r.toNat]'r.isLt

/-- A write of GPR[r]: a write of register 0 is discarded (R21). -/
def State.setReg (s : State) (r : Reg) (v : Dword) : State :=
  if r = 0 then s else { s with gpr := s.gpr.set r.toNat v r.isLt }

/-- A value that the spec leaves open, and the state in which it has been used up. -/
def State.draw (s : State) : Dword × State := (Config.freeValue s.free, { s with free := s.free + 1 })

/-! ### Status, mode and interrupts -/

/-- Status.IE (R45). -/
def State.ie (s : State) : Bool := s.cp0.status.getLsbD 0
/-- Status.EXL (R45). -/
def State.exl (s : State) : Bool := s.cp0.status.getLsbD 1
/-- Status.ERL (R45). -/
def State.erl (s : State) : Bool := s.cp0.status.getLsbD 2
/-- Status.KSU (R45). -/
def State.ksu (s : State) : BitVec 2 := s.cp0.status.extractLsb' 3 2
/-- Status.UX (R44). -/
def State.ux (s : State) : Bool := s.cp0.status.getLsbD 5
/-- Status.SX (R44). -/
def State.sx (s : State) : Bool := s.cp0.status.getLsbD 6
/-- Status.KX (R44). -/
def State.kx (s : State) : Bool := s.cp0.status.getLsbD 7
/-- Status.CH, the CP0 condition (R42, R378). -/
def State.ch (s : State) : Bool := s.cp0.status.getLsbD 18
/-- Status.BEV (R42). -/
def State.bev (s : State) : Bool := s.cp0.status.getLsbD 22
/-- Status.CU0 (R41). -/
def State.cu0 (s : State) : Bool := s.cp0.status.getLsbD 28

/-- The operating modes (R55). -/
inductive Mode where
  /-- User mode. -/
  | user
  /-- Supervisor mode. -/
  | supervisor
  /-- Kernel mode. -/
  | kernel
deriving DecidableEq, Repr

/-- The operating mode (R55). KSU = 11 with EXL = ERL = 0 is no mode: `step` stops there. -/
def State.mode (s : State) : Mode :=
  if s.exl || s.erl || s.ksu == 0 then .kernel else if s.ksu == 1 then .supervisor else .user

/-- `Is64bitMode()` (R56). -/
def State.is64bitMode (s : State) : Bool :=
  match s.mode with
  | .kernel => s.kx
  | .supervisor => s.sx
  | .user => s.ux

/-- `Is64bitOpsEnabled()` (R57). -/
def State.ops64 (s : State) : Bool :=
  match s.mode with
  | .kernel => true
  | .supervisor => s.sx
  | .user => s.ux

/-- `CP0usable` (R188). -/
def State.cop0Usable (s : State) : Bool := s.mode == .kernel || s.cu0

/-- The interrupt lines Int4..Int0 as Cause bits 14:10 (R520, R1164): USB, Ethernet #1, ATM, system controller, and
Ethernet #2 or PCI. -/
def State.intLines (s : State) : Word :=
  (if s.usb.intr then 0x0400 else 0) ||| (if s.eth1.intr then 0x0800 else 0) |||
  (if s.atm.intr then 0x1000 else 0) ||| (if s.syscon.intb3 then 0x2000 else 0) |||
  (if s.eth2.intr || s.pci.intr s.board.nic then 0x4000 else 0)

/-- Cause as it reads: IP6:IP2 show the lines (R47, R72). -/
def State.causeNow (s : State) : Word := merge 0x7C00 s.cp0.cause s.intLines

/-- Status as it reads: bit 21 shows `TLB_shutdown` (R66). -/
def State.statusNow (s : State) : Word := setBit s.cp0.status 21 s.tlbShutdown

/-- The interrupt enable condition (R1161). -/
def State.interruptEnabled (s : State) : Bool :=
  s.ie && !s.exl && !s.erl && (s.causeNow &&& s.cp0.status &&& 0xFF00) != 0

/-! ### Edges (R521, R1122) -/

/-- The levels of the S_ISR sources (R521), in the positions of `Syscon.capture`. -/
def State.sourceLevels (s : State) : Word :=
  (if s.eth2.intr then 0x0002_0000 else 0) ||| (if s.pci.intr s.board.nic then 0x0001_0000 else 0) |||
  (if s.syscon.exint then 0x08 else 0) ||| (if s.uart.intr then 0x04 else 0) ||| (s.syscon.pwsr &&& 0x3F00)

/-- The system controller captures the rising edges of its sources (R521, D20). -/
def State.captureSources (s : State) : State := { s with syscon := s.syscon.capture s.sourceLevels }

/-- The core latches a rising edge of `nmib` (R1122, D22); in Hibernate mode its clock is stopped (R462). -/
def State.captureNmi (s : State) : State :=
  if s.power = .hibernate then s
  else { s with
    nmiPending := s.nmiPending || (s.syscon.nmib && !s.nmiLine)
    nmiLine := s.syscon.nmib }

/-- Both edge detectors look. -/
def State.capture (s : State) : State := s.captureSources.captureNmi

/-! ### Taking an exception (R1125–R1133) -/

/-- Cause.ExcCode (R48). -/
def Exc.code : Exc → BitVec 5
  | .int => 0
  | .mod _ => 1
  | .tlbRefill store _ => if store then 3 else 2
  | .tlbInvalid store _ => if store then 3 else 2
  | .addressError store _ => if store then 5 else 4
  | .ibe => 6
  | .dbe => 7
  | .sys => 8
  | .bp => 9
  | .ri => 10
  | .cpu _ => 11
  | .ov => 12
  | .tr => 13
  | .watch => 23

/-- Whether the exception is a TLB Refill. -/
def Exc.isRefill : Exc → Bool
  | .tlbRefill _ _ => true
  | _ => false

/-- The failing address of the three TLB exceptions. -/
def Exc.tlbAddress : Exc → Option Dword
  | .mod va => some va
  | .tlbRefill _ va => some va
  | .tlbInvalid _ va => some va
  | _ => none

/-- The failing address of an Address Error. -/
def Exc.errorAddress : Exc → Option Dword
  | .addressError _ va => some va
  | _ => none

/-- `restart_pc()`: the next instruction, or the branch before it if it is in a delay slot (R1131). -/
def State.restartPc (s : State) : Dword :=
  match s.slot with
  | .normal => s.pc
  | .delay _ => s.pc - 4

/-- The instruction at `pc` is in a branch delay slot (R1131). -/
def State.inDelaySlot (s : State) : Bool :=
  match s.slot with
  | .normal => false
  | .delay _ => true

/-- The vector offset: `refill_offset()` for a TLB Refill, 180H otherwise (R1126). -/
def State.vectorOffset (s : State) (e : Exc) : Dword :=
  if e.isRefill && !s.exl then (if s.is64bitMode then 0x080 else 0x000) else 0x180

/-- The vector base address (R1125). -/
def State.vectorBase (s : State) : Dword := if s.bev then 0xFFFF_FFFF_BFC0_0200 else 0xFFFF_FFFF_8000_0000

/-- Context, XContext and EntryHi with the address fields taken from `c`, `x` and `h` (R33, R38, R54). -/
def Cp0.setAddressFields (p : Cp0) (c x h : Dword) : Cp0 :=
  { p with
    context := merge 0x0000_0000_01FF_FFF0 p.context c
    xcontext := merge 0x0000_0007_FFFF_FFF0 p.xcontext x
    entryHi := merge 0xC000_00FF_FFFF_F800 p.entryHi h }

/-- XContext.R and XContext.BadVPN2 for the address `va`, in place (R54). -/
def xcontextFields (va : Dword) : Dword :=
  ((va >>> 29) &&& 0x0000_0006_0000_0000) ||| ((va >>> 7) &&& 0x0000_0001_FFFF_FFF0)

/-- What entry writes of the address registers (R1130, R1132). After a TLB exception Context, XContext and EntryHi show the
address and EntryLo0/1 are undefined; after an Address Error all of these fields are undefined (U42): free values. -/
def Cp0.saveAddress (p : Cp0) (e : Exc) (n : Nat) : Cp0 :=
  let lows (q : Cp0) : Cp0 :=
    { q with
      entryLo0 := Config.freeValue (n + 1) &&& 0x0FFF_FFFF
      entryLo1 := Config.freeValue (n + 2) &&& 0x0FFF_FFFF }
  match e.tlbAddress, e.errorAddress with
  | some va, _ => lows { p.setAddressFields (va >>> 7) (xcontextFields va) va with badVAddr := va }
  | none, some va =>
    lows { p.setAddressFields (Config.freeValue (n + 3)) (Config.freeValue (n + 4)) (Config.freeValue (n + 5)) with
      badVAddr := va }
  | none, none => p

/-- Cause.CE after the exception: the coprocessor number, undefined for any other exception (R47, U42). -/
def Exc.causeCe (e : Exc) (n : Nat) : BitVec 2 :=
  match e with
  | .cpu u => u
  | _ => (Config.freeValue n).extractLsb' 0 2

/-- EPC and Cause.BD, written only if EXL was 0 (R1130, R1133). -/
def State.saveRestart (s : State) : Cp0 :=
  if s.exl then s.cp0
  else { s.cp0 with epc := s.restartPc, cause := setBit s.cp0.cause 31 s.inDelaySlot }

/-- Exception entry (R1130): the one operation that takes every exception other than Cold Reset and NMI. It uses up six
free values, whichever of them the exception needs. -/
def State.takeException (s : State) (e : Exc) : State :=
  let p := s.saveRestart.saveAddress e s.free
  { s with
    pc := s.vectorBase + s.vectorOffset e
    slot := .normal
    free := s.free + 6
    cp0 := { p with
      status := p.status ||| 0x0000_0002
      cause := merge 0x3000_007C p.cause
        (((e.causeCe s.free).zeroExtend 32 <<< 28) ||| (e.code.zeroExtend 32 <<< 2)) } }

/-- NMI (R1122). -/
def State.takeNmi (s : State) : State :=
  { s with
    pc := 0xFFFF_FFFF_BFC0_0000
    slot := .normal
    nmiPending := false
    cp0 := { s.cp0 with
      errorEpc := if s.erl then s.cp0.errorEpc else s.restartPc
      status := s.cp0.status ||| 0x0050_0004 } }

/-- Cold reset of the whole chip (R1120, R1202, R571): every register takes its reset value, the one the spec states or the
one the assumption log names; ErrorEPC keeps the restart address if ERL was 0. TLB, caches, SDRAM, the memories of the
devices and what lies outside the chip keep their contents. What becomes of the writes still posted is not specified (R74,
R1201): those to SDRAM have been made, those to registers and to the PCI bus are lost (DESIGN CHOICE, assumption log 68). -/
def State.coldReset (s : State) : State :=
  { State.reset with
    cp0 := { State.reset.cp0 with errorEpc := if s.erl then s.cp0.errorEpc else s.restartPc }
    tlb := s.tlb
    icache := s.icache
    dcache := s.dcache
    mem := s.mem
    syscon := s.syscon.coldReset
    uart := s.uart.warmReset
    microWire := s.microWire.coldReset
    usb := s.usb.warmReset
    eth1 := s.eth1.warmReset
    eth2 := s.eth2.warmReset
    atm := s.atm.warmReset
    pci := s.pci.warmReset
    board := s.board
    countPre := s.countPre
    ibusPre := s.ibusPre
    free := s.free
    steps := s.steps
    inputs := s.inputs }

/-- ERET's return (R439): through ErrorEPC if ERL = 1, else through EPC. -/
def State.returnFromException (s : State) : State :=
  if s.erl then { s with pc := s.cp0.errorEpc, cp0 := { s.cp0 with status := setBit s.cp0.status 2 false } }
  else { s with pc := s.cp0.epc, cp0 := { s.cp0 with status := setBit s.cp0.status 1 false } }

/-! ### Completing an instruction -/

/-- Random after a completed instruction: from Wired it wraps to 31 (R31, D8). -/
def Cp0.nextRandom (p : Cp0) : BitVec 5 := if p.random = p.wired then 31 else p.random - 1

/-- Random advances. -/
def State.stepRandom (s : State) : State := { s with cp0 := { s.cp0 with random := s.cp0.nextRandom } }

/-- Where execution goes on after the instruction at `pc`, unless it jumps (R24, R360 b). -/
def State.nextPc (s : State) : Dword :=
  match s.slot with
  | .delay (some t) => t
  | _ => s.pc + 4

/-- The program counter moves past an instruction that is no jump or branch. -/
def State.advance (s : State) : State := { s with pc := s.nextPc, slot := .normal }

/-- An instruction completes: Random and the program counter advance. -/
def State.retire (s : State) : State := s.stepRandom.advance

/-- The outcome of an instruction's effect: it retires, or its exception is taken. -/
def Res.finish (x : Res Unit) : Out :=
  match x with
  | .ok _ s => .next s.retire
  | .raise e s => .next (s.takeException e)
  | .fault f => .fault f

/-- An instruction that raises an exception outright. -/
def State.trap (s : State) (e : Exc) : Out := .next (s.takeException e)

/-- An instruction marked ε: Reserved Instruction where 64-bit operations are not enabled (R57, R1147). -/
def State.need64 (s : State) (k : State → Out) : Out := if s.ops64 then k s else s.trap .ri

/-- A CP0 instruction: Coprocessor Unusable where CP0 is not usable (R188, R470). -/
def State.needCop0 (s : State) (k : State → Out) : Out := if s.cop0Usable then k s else s.trap (.cpu 0)

/-- A jump or branch (R360, R361): into the delay slot with the target pending, or, not taken, with none; a branch-likely
that is not taken nullifies the slot. In a delay slot its operation is undefined (U32). -/
def State.jump (s : State) (taken likely : Bool) (target : Dword) : Out :=
  match s.slot with
  | .delay _ => .fault .jumpInDelaySlot
  | .normal =>
    let s := s.stepRandom
    if taken then .next { s with pc := s.pc + 4, slot := .delay (some target) }
    else if likely then .next { s with pc := s.pc + 8 }
    else .next { s with pc := s.pc + 4, slot := .delay none }

end Sys2Proof.Machine
end

