-- ==== Sys2Proof/Machine/Bus.lean ====
section
/-! DEFINITION. The physical address space (spec/20_memory.md R136–R138): what an access that leaves the core does. An
access stays within one aligned doubleword; `n` is its size in bytes, data stand in the low bytes of a doubleword. -/
namespace Sys2Proof.Machine

/-- What a physical address selects (R136). -/
inductive Region where
  /-- SDRAM inside the configured size. -/
  | sdram
  /-- Boot ROM inside the configured size. -/
  | rom
  /-- 1F80_0000H–1FFF_FFFFH outside the configured ROM size. -/
  | romOutside
  /-- A reserved range of the memory side. -/
  | memReserved
  /-- System controller registers. -/
  | syscon
  /-- The registers of a block on the IBUS. -/
  | block (b : Block)
  /-- A reserved range of the IBUS target area. -/
  | ibusReserved
  /-- The window onto the PCI bus. -/
  | pciWindow
deriving DecidableEq, Repr

/-- The address that the system controller decodes: 2000_0000H–FFFF_FFFFH mirror the low 29 bits (R137). -/
def foldAddress (pa : PAddr) : Nat := (pa.extractLsb' 0 29).toNat

/-- The SDRAM that answers: the size that SDTSR.SDS configures, as far as the board fits it (R9, R136, R545). -/
def State.sdramSize (s : State) : Nat := min s.syscon.sdramSize s.board.sdramSize

/-- Bytes of boot ROM that the device lines SMA[20:0] reach on a data bus of `width` bytes (R542). -/
def romReach (width : Nat) : Nat := width * 0x0020_0000

/-- The access width in bytes of the boot ROM's data bus (R542). RMSL = 11 is not listed; the model takes it as 32 bits
(DESIGN CHOICE, assumption log 54). -/
def Board.romWidth (b : Board) : Nat := if b.rmsl = 2 then 1 else if b.rmsl = 1 then 2 else 4

/-- A boot ROM of `size` bytes answers at `a`: 8 Mbytes from 1F80_0000H on, a smaller one from 1FC0_0000H on (R136). -/
def romHolds (size a : Nat) : Bool :=
  if 0x0080_0000 ≤ size then decide (0x1F80_0000 ≤ a) else decide (0x1FC0_0000 ≤ a) && decide (a < 0x1FC0_0000 + size)

/-- The address is boot ROM: inside the size that RMMDR.FSM configures, the size the board fits, and the part that the
data bus can reach (R136, R540, R542). -/
def State.isRom (s : State) (a : Nat) : Bool :=
  decide (s.syscon.romRange.1 ≤ a) && decide (a ≤ s.syscon.romRange.2) && romHolds s.board.romSize a &&
  romHolds (romReach s.board.romWidth) a

/-- The map of R136. -/
def State.region (s : State) (a : Nat) : Region :=
  if a < 0x1000_0000 then (if a < s.sdramSize then .sdram else .memReserved)
  else if a < 0x1000_1000 then .syscon
  else if a < 0x1000_2000 then .block .usb
  else if a < 0x1000_3000 then .block .eth1
  else if a < 0x1000_4000 then .block .eth2
  else if a < 0x1000_5000 then .block .pci
  else if a < 0x1001_0000 then .ibusReserved
  else if a < 0x1002_0000 then .block .atm
  else if a < 0x1010_0000 then .ibusReserved
  else if a < 0x1030_0000 then .pciWindow
  else if a < 0x1F80_0000 then .memReserved
  else if s.isRom a then .rom
  else .romOutside

/-- Set bits of S_NSR (R531). -/
def State.nmiCause (s : State) (bits : Word) : State := { s with syscon := s.syscon.nmiCause bits }

/-- A drawn value as the data of a read. -/
def State.openRead (s : State) : Res Dword := .ok s.draw.1 s.draw.2

/-! ### Device registers -/

/-- The word of a device's answer, where it is open a free one up to `limit`. -/
def State.answer (s : State) (data : Option Word) (limit : Nat) : Word × State :=
  match data with
  | some w => (w, s)
  | none => (BitVec.ofNat 32 (s.draw.1.toNat % (limit + 1)), s.draw.2)

/-- Resolve an open word of a device's answer. -/
def resolveData (data : Option Word) (limit : Nat) (s : State) : Res Word := .ok (s.answer data limit).1 (s.answer data limit).2

/-- A read that a device has answered (R502, R531): a reserved address sets CBERR and returns the data-error bit (`onError`);
an illegal size sets CBERR and returns open data, and clears a register that any read clears (R164); `put` stores the
device. -/
def deviceRead {σ : Type} (onError : Exc) (put : State → σ → State) (r : DevReply σ) (s : State) : Res Word :=
  match r.status with
  | .ok => resolveData r.data r.limit (put s r.dev)
  | .reserved => .raise onError (s.nmiCause nsrCBERR)
  | .badSize => resolveData none 0xFFFF_FFFF ((put s r.dev).nmiCause nsrCBERR)

/-- A write that a device has answered (R502, R515): an illegal write is lost and sets CBERR. -/
def deviceWrite {σ : Type} (put : State → σ → State) (r : DevReply σ) (s : State) : State :=
  match r.status with
  | .ok => put s r.dev
  | .reserved => s.nmiCause nsrCBERR
  | .badSize => s.nmiCause nsrCBERR

/-- Whether the system controller block accepts the lanes at the offset (R502): word only from 100H on. -/
def sysconSizeOk (off : Nat) (be : Lanes) : Bool := if off < 0x100 then be.natural else be == Lanes.word

/-- A word-lane read of the block 1000_0000H–1000_0FFFH (R501, R981, R1010, R1030). A reserved address answers as one
whatever the size of the access (R502). -/
def State.readSyscon (s : State) (onError : Exc) (off : Nat) (be : Lanes) : Res Word :=
  let ok := sysconSizeOk off be
  if 0x80 ≤ off ∧ off < 0xA0 then
    deviceRead onError (fun s d => { s with uart := d }) ((s.uart.read (off - 0x80) be).sized ok) s
  else if 0xB0 ≤ off ∧ off < 0xC4 then
    deviceRead onError (fun s _ => s) (DevReply.sized ok { dev := (), data := some (s.timers.read (off - 0xB0)) }) s
  else if 0xD0 ≤ off ∧ off < 0xE4 then
    deviceRead onError (fun s d => { s with microWire := d }) ((s.microWire.read (off - 0xD0)).sized ok) s
  else
    deviceRead onError (fun s d => { s with syscon := d })
      ((s.syscon.read s.board.clksl s.board.endcen off be).sized ok) s

/-- The effect of a write of S_WRCR on one block (R510, R1203): its registers return to their reset values and its ready
bit reads 0 until the block reports ready. -/
def State.warmReset (s : State) (b : Block) : State :=
  let s := { s with syscon := { s.syscon with wrsr := setBit s.syscon.wrsr b.bit false } }
  match b with
  | .usb => { s with usb := s.usb.warmReset }
  | .eth1 => { s with eth1 := s.eth1.warmReset }
  | .atm => { s with atm := s.atm.warmReset }
  | .eth2 => { s with eth2 := s.eth2.warmReset }
  | .uart => { s with uart := s.uart.warmReset }
  | .pci => { s with pci := s.pci.warmReset }

/-- The warm resets that the lanes `be` of a word written to S_WRCR ask for. -/
def State.writeWrcr (s : State) (be : Lanes) (v : Word) : State :=
  let w := v &&& be.mask
  let go (s : State) (b : Block) : State := if w.getLsbD b.bit then s.warmReset b else s
  go (go (go (go (go (go s .usb) .eth1) .atm) .eth2) .uart) .pci

/-- A word-lane write of the block 1000_0000H–1000_0FFFH. -/
def State.writeSyscon (s : State) (off : Nat) (be : Lanes) (v : Word) : State :=
  if !sysconSizeOk off be then s.nmiCause nsrCBERR
  else if 0x80 ≤ off ∧ off < 0xA0 then
    deviceWrite (fun s d => { s with uart := d }) (s.uart.write (off - 0x80) be v) s
  else if 0xB0 ≤ off ∧ off < 0xC4 then { s with timers := s.timers.write (off - 0xB0) be v s.steps }
  else if 0xD0 ≤ off ∧ off < 0xE4 then { s with microWire := s.microWire.write (off - 0xD0) be v }
  else if off = 0x30 then s.writeWrcr be v
  else deviceWrite (fun s d => { s with syscon := d }) (s.syscon.write off be v) s

/-- A word-lane read of the registers of an IBUS block. What a block whose clock is stopped answers is not stated (R514,
U21): an open word (DESIGN CHOICE, assumption log 50). -/
def State.readBlock (s : State) (onError : Exc) (b : Block) (off : Nat) (be : Lanes) : Res Word :=
  if s.syscon.stopped b then resolveData none 0xFFFF_FFFF s
  else match b with
  | .usb => deviceRead onError (fun s d => { s with usb := d }) (s.usb.read off be) s
  | .eth1 => deviceRead onError (fun s d => { s with eth1 := d }) (s.eth1.read off be) s
  | .atm => deviceRead onError (fun s d => { s with atm := d }) (s.atm.read off be) s
  | .eth2 => deviceRead onError (fun s d => { s with eth2 := d }) (s.eth2.read off be) s
  | .uart => resolveData none 0xFFFF_FFFF s
  | .pci => deviceRead onError (fun s d => { s with pci := d }) (s.pci.read s.board.nic off be) s

/-- A word-lane write of the registers of an IBUS block; lost where the block's clock is stopped (U21). -/
def State.writeBlock (s : State) (b : Block) (off : Nat) (be : Lanes) (v : Word) : State :=
  if s.syscon.stopped b then s
  else match b with
  | .usb => deviceWrite (fun s d => { s with usb := d }) (s.usb.write off be v) s
  | .eth1 => deviceWrite (fun s d => { s with eth1 := d }) (s.eth1.write off be v) s
  | .atm => deviceWrite (fun s d => { s with atm := d }) (s.atm.write off be v) s
  | .eth2 => deviceWrite (fun s d => { s with eth2 := d }) (s.eth2.write off be v) s
  | .uart => s
  | .pci => deviceWrite (fun s d => { s with pci := d }) (s.pci.write s.board.nic off be v) s

/-- The answer to one word of a read of the window onto the PCI bus (R945, R949); an open word while the block's clock is stopped
(U21). -/
def State.windowWord (s : State) : Word × State :=
  if s.syscon.stopped .pci then s.answer none 0xFFFF_FFFF
  else
    let r := s.pci.windowRead s.board.nic
    { s with pci := r.dev }.answer r.data r.limit

/-- The offset in the system controller's block is a reserved address (R501, R502). -/
def State.sysconReserved (s : State) (off : Nat) : Bool :=
  if 0x80 ≤ off ∧ off < 0xA0 then (s.uart.write (off - 0x80) Lanes.word 0).status == .reserved
  else if (0xB0 ≤ off ∧ off < 0xC4) ∨ (0xD0 ≤ off ∧ off < 0xE4) then false
  else (s.syscon.write off Lanes.word 0).status == .reserved

/-- The offset in an IBUS block is a reserved address; a block whose clock is stopped does not say (U21). -/
def State.blockReserved (s : State) (b : Block) (off : Nat) : Bool :=
  !s.syscon.stopped b &&
  match b with
  | .usb => (s.usb.writeReg off Lanes.word 0).status == .reserved
  | .eth1 => (s.eth1.writeReg off 0).status == .reserved
  | .atm => (s.atm.write off Lanes.word 0).status == .reserved
  | .eth2 => (s.eth2.writeReg off 0).status == .reserved
  | .uart => false
  | .pci => (s.pci.writeReg s.board.nic off Lanes.word 0).status == .reserved

/-! ### Accesses of 1 to 8 bytes -/

/-- The offset of a block's word in the block: the low bits of the address. The ATM block has 64 Kbytes, the others 4. -/
def blockOffset (b : Block) (a : Nat) : Nat :=
  match b with
  | .atm => a % 0x1_0000 / 4 * 4
  | _ => a % 0x1000 / 4 * 4

/-- The byte enables of `n` bytes from address `a` on, within one word. -/
def lanesOf (a n : Nat) : Lanes := BitVec.ofNat 4 ((2 ^ n - 1) * 2 ^ (a % 4))

/-- The byte enables of each word that the `n` bytes from address `a` on touch. -/
def spanLanes (a n : Nat) : List Lanes :=
  (List.range ((a % 4 + n + 3) / 4)).map fun i => BitVec.ofNat 4 ((2 ^ n - 1) * 2 ^ (a % 4) / 16 ^ i)

/-- The words that a write of `n` bytes with the value `v` from address `a` on puts on the bus. -/
def spanWords (a n v : Nat) : List Word :=
  (List.range ((a % 4 + n + 3) / 4)).map fun i => BitVec.ofNat 32 (v * 256 ^ (a % 4) / 2 ^ (32 * i))

/-- The access touches one word only. -/
def inOneWord (a n : Nat) : Bool := decide (a % 4 + n ≤ 4)

/-- The bytes an access takes from the word it touches. -/
def fromWord (a n : Nat) (w : Word) : Dword := BitVec.ofNat 64 (w.toNat / 256 ^ (a % 4) % 256 ^ n)

/-- The word lines on which a store puts its bytes. -/
def toWord (a : Nat) (v : Dword) : Word := BitVec.ofNat 32 (v.toNat * 256 ^ (a % 4))

/-- Take the bytes of an access out of the word read. -/
def takeBytes (a n : Nat) (r : Res Word) : Res Dword := r.bind fun w s => .ok (fromWord a n w) s

/-- The registers from `a` on are read one after the other, the lowest first, each with its byte enables. -/
def readRegisters (word : Lanes → Nat → State → Res Word) : List Lanes → Nat → State → Res Unit
  | [], _, s => .ok () s
  | be :: rest, a, s => (word be a s).bind fun _ s => readRegisters word rest (a + 4) s

/-- What stays behind when a read has ended, with data or with an exception. -/
def Res.behind {α : Type} (f : State → State) : Res α → Res α
  | .ok a s => .ok a (f s)
  | .raise e s => .raise e (f s)
  | .fault e => .fault e

/-- A burst read of registers with the byte enables `lanes`, word by word, which registers do not accept: IRERR, set when the words
have been read (R502). The registers are read all the same: one that is read-clear is cleared (R164), a reserved address sets CBERR
and returns the data-error bit (R138); the data are open (DESIGN CHOICE, assumption log 34). -/
def registerBurst (word : Lanes → Nat → State → Res Word) (lanes : List Lanes) (a : Nat) (s : State) : Res Unit :=
  (readRegisters word lanes (a / 4 * 4) s).behind fun s => s.nmiCause nsrIRERR

/-- A read of registers: of one word as `word` does it with byte enables; of more than one a burst, which reads exactly the bytes
named (R242). -/
def registerRead (a n : Nat) (s : State) (word : Lanes → Nat → State → Res Word) : Res Dword :=
  if inOneWord a n then takeBytes a n (word (lanesOf a n) a s)
  else (registerBurst word (spanLanes a n) a s).bind fun _ s => s.openRead

/-- A burst write of `count` registers is lost and sets IRERR (R502), and CBERR if one of the addresses is reserved (R138). -/
def registerLost (reserved : Nat → Bool) (count a : Nat) (s : State) : State :=
  s.nmiCause (nsrIRERR ||| if (List.range count).any fun i => reserved (a / 4 * 4 + 4 * i) then nsrCBERR else 0)

/-- A single write of a register word, or a burst, which is lost. -/
def registerWrite (a n : Nat) (s : State) (reserved : Nat → Bool) (word : State) : State :=
  if inOneWord a n then word else registerLost reserved ((a % 4 + n + 3) / 4) a s

/-- A read of the window is issued on the PCI bus (R945); nothing is while the block's clock is stopped. -/
def State.issueWindowRead (s : State) (a n : Nat) : State :=
  if s.syscon.stopped .pci then s else { s with pci := s.pci.issueRead (BitVec.ofNat 32 a) (spanLanes a n) }

/-- The answers of the PCI bus to a read of `count` words, the lowest first. -/
def State.windowWords : Nat → State → List Word × State
  | 0, s => ([], s)
  | count + 1, s =>
    let low := s.windowWord
    let rest := State.windowWords count low.2
    (low.1 :: rest.1, rest.2)

/-- A read of the window of `n` bytes from `a` on goes out on the PCI bus: one answer for each word, the lowest first (R945). -/
def State.readOnPci (s : State) (a n : Nat) : List Word × State :=
  State.windowWords ((a % 4 + n + 3) / 4) (s.issueWindowRead a n)

/-- How many bytes of a read of `n` bytes from `a` on one delayed read brings: at most 16 words (R949). -/
def delayedBytes (a n : Nat) : Nat := min n (64 - a % 4)

/-- The words of a read of the window (R945): from the FIFO where this very read is one that is being repeated (R949), and what it does
not hold from the PCI bus. -/
def State.readPci (s : State) (a n : Nat) : List Word × State :=
  match if s.syscon.stopped .pci then none else s.pci.heldRead a n with
  | none => s.readOnPci a n
  | some words =>
    let t := { s with pci := { s.pci with readAhead := none } }
    let k := delayedBytes a n
    if n ≤ k then (words, t) else (words ++ (t.readOnPci (a + k) (n - k)).1, (t.readOnPci (a + k) (n - k)).2)

/-- The number that words make up, the first one least significant. -/
def wordsValue (words : List Word) : Nat := words.foldr (fun w v => w.toNat + 2 ^ 32 * v) 0

/-- A read of the window of `n` bytes from `a` on, as one number (R133, R945). The core's read is one step, since the system controller
repeats it until the data have come (R949): where data for another block wait in the FIFO, they stay (DESIGN CHOICE, assumption log
46). -/
def State.readWindow (s : State) (a n : Nat) : Nat × State :=
  (wordsValue (s.readPci a n).1 / 256 ^ (a % 4) % 256 ^ n, (s.readPci a n).2)

/-- The controller answers a bus master's read of the window with 'retry' (R949): delayed reads are enabled, and its data are not in the
FIFO. -/
def State.retriesRead (s : State) (a n : Nat) : Bool :=
  !s.syscon.stopped .pci && s.pci.busMaster && !s.pci.bcnt.getLsbD 1 && (s.pci.heldRead a n).isNone

/-- A delayed read is latched and read on the PCI bus into the FIFO (R949); not while the FIFO holds the data of another one, whose read
is answered with 'retry' alone (DESIGN CHOICE, assumption log 46). -/
def State.latchRead (s : State) (a n : Nat) : State :=
  if s.pci.readAhead.isSome then s
  else
    let r := s.readOnPci a (delayedBytes a n)
    { r.2 with pci := { r.2.pci with readAhead := some { addr := a, bytes := n, data := r.1 } } }

/-- A write of the window of `n` bytes from `a` on with the value `v` is handed to the PCI bus (R945, R947); it is lost while
the block's clock is stopped. -/
def State.writeWindow (s : State) (a n v : Nat) : State :=
  if s.syscon.stopped .pci then s
  else { s with pci := s.pci.issueWrite (BitVec.ofNat 32 a) (spanLanes a n) (spanWords a n v) }

/-! ### Posted writes (R162, R163, R515) -/

/-- The side of the system controller that an address lies on. -/
inductive BusSide where
  /-- SDRAM, boot ROM and the reserved ranges of the memory side. -/
  | memory
  /-- The system controller's own registers. -/
  | registers
  /-- The IBUS target area. -/
  | ibus
deriving DecidableEq, Repr

/-- The side of a decoded address (R136). -/
def busSide (a : Nat) : BusSide :=
  if a < 0x1000_0000 then .memory
  else if a < 0x1000_1000 then .registers
  else if a < 0x1030_0000 then .ibus
  else .memory

/-- The side that a posted write goes to. -/
def PostedWrite.side : PostedWrite → BusSide
  | .memory _ => .memory
  | .single pa _ _ => busSide (foldAddress pa)
  | .burst pa _ => busSide (foldAddress pa)

/-- A store to the ROM range lands (R138, R540): it never changes the model's ROM. With the write mode off it is dropped, and
whether MAERR is set is open (U22); with it on, only an access of the device's width is legal, and it reaches the flash device
as a command of its own, which the spec does not describe. -/
def State.writeRom (s : State) (n : Nat) : State :=
  if s.syscon.rmmdr.getLsbD 8 then (if n = s.board.romWidth then s else s.nmiCause nsrMAERR)
  else if s.draw.1.getLsbD 0 then s.draw.2.nmiCause nsrMAERR else s.draw.2

/-- A single write elsewhere than to SDRAM lands. -/
def State.landSingle (s : State) (pa : PAddr) (n : Nat) (v : Dword) : State :=
  let a := foldAddress pa
  match s.region a with
  | .sdram => s
  | .rom => s.writeRom n
  | .romOutside => s.nmiCause nsrMAERR
  | .memReserved => s.nmiCause nsrMAERR
  | .syscon =>
    registerWrite a n s (fun a => s.sysconReserved (a % 0x1000))
      (s.writeSyscon (a % 0x1000 / 4 * 4) (lanesOf a n) (toWord a v))
  | .block b =>
    registerWrite a n s (fun a => s.blockReserved b (blockOffset b a))
      (s.writeBlock b (blockOffset b a) (lanesOf a n) (toWord a v))
  | .ibusReserved => s.nmiCause nsrIBERR
  | .pciWindow => s.writeWindow a n v.toNat

/-- A burst write of four words elsewhere than to SDRAM lands (R138, R502). -/
def State.landBurst (s : State) (pa : PAddr) (v : BitVec 128) : State :=
  let a := foldAddress pa
  match s.region a with
  | .sdram => s
  | .rom => s.nmiCause nsrMAERR
  | .romOutside => s.nmiCause nsrMAERR
  | .memReserved => s.nmiCause nsrMAERR
  | .syscon => registerLost (fun a => s.sysconReserved (a % 0x1000)) 4 a s
  | .block b => registerLost (fun a => s.blockReserved b (blockOffset b a)) 4 a s
  | .ibusReserved => s.nmiCause nsrIBERR
  | .pciWindow => s.writeWindow a 16 v.toNat

/-- What the write FIFO holds after a write has left the command buffer (R162 c, R163): a transaction of the memory side waits
until the FIFO is empty, and a write of SDRAM then enters it; any other write leaves it alone. -/
def PostedWrite.fifo (old : List Host.Cell) : PostedWrite → List Host.Cell
  | .memory replaced => replaced
  | .single pa _ _ => if busSide (foldAddress pa) = .memory then [] else old
  | .burst pa _ => if busSide (foldAddress pa) = .memory then [] else old

/-- A posted write leaves the command buffer: one to SDRAM enters the write FIFO, any other has its effect. -/
def State.land (s : State) (w : PostedWrite) : State :=
  let s := { s with writeFifo := w.fifo s.writeFifo }
  match w with
  | .memory _ => s
  | .single pa n v => s.landSingle pa n v
  | .burst pa v => s.landBurst pa v

/-- The first `n` of the writes `ws`, all that are posted in `s`, land in order (R515); the edge detectors look after each. -/
def State.landFirst : List PostedWrite → Nat → State → State
  | [], _, s => s
  | w :: ws, n, s => if n = 0 then s else State.landFirst ws (n - 1) ({ s with posted := ws }.land w).capture

/-- The first `n` posted writes land. -/
def State.landWrites (s : State) (n : Nat) : State := State.landFirst s.posted n s

/-- How many posted writes must land before a read of one side (R163): up to the last of that side, since they land in order; before a
read of an IBUS target, which flushes the command buffer, all of them (R163 3). -/
def landCount (side : BusSide) : List PostedWrite → Nat
  | [] => 0
  | w :: ws =>
    let n := landCount side ws
    if n ≠ 0 then n + 1 else if side = .ibus ∨ w.side = side then 1 else 0

/-- A read waits until the posted writes of its side have landed, a read of an IBUS target until all have: a write of any device register
has taken effect then (R163 3, D18). A read of memory waits for the write FIFO too, a read elsewhere does not (R163 2). -/
def State.await (s : State) (side : BusSide) : State :=
  let s := s.landWrites (landCount side s.posted)
  { s with writeFifo := if side = .memory then [] else s.writeFifo }

/-- What the address selects once all posted writes have landed: where a write that is posted now will go. -/
def State.regionAhead (s : State) (a : Nat) : Region := (s.landWrites s.posted.length).region a

/-- Room for one more write (R162, R515): the system controller's command buffer has four entries, and a write that finds it full
stays in the core's internal write buffer; with that full too the core waits until the oldest write has landed. -/
def State.room (s : State) : State :=
  if s.posted.length < Config.writeBufferEntries + 5 then s else s.landWrites 1

/-- A write is posted (R162, R515). -/
def State.post (s : State) (w : PostedWrite) : State := { s.room with posted := s.room.posted ++ [w] }

/-- The SysAD bus is idle once the core's internal write buffer is empty: the writes in the command buffer stay posted (R162,
R460). -/
def State.awaitSysAd (s : State) : State := s.landWrites (s.posted.length - 4)

/-- The `n` bytes of memory from `a` on. -/
def Memory.cells (m : Memory) (a n : Nat) : List Host.Cell := (List.range n).map fun i => (a + i, m.byte (a + i))

/-- A write of SDRAM is posted: the core sees it at once (R163), the bus masters when it lands. -/
def State.postMemory (s : State) (a n v : Nat) : State :=
  { s.post (.memory (s.mem.cells a n)) with mem := s.mem.write a n v }

/-! ### Single accesses (R136–R138) -/

/-- An uncached read of `n` bytes at physical address `pa` (R136–R138). Reads of 3, 5, 6 and 7 bytes of the boot ROM are not
mentioned; the model takes them as illegal, like byte and halfword reads (DESIGN CHOICE, assumption log 55). S_NSR.MAERR is set whatever
S_NER.MAERRE is, as R531 has it, where R138 and R542 say that S_NSR is updated if S_NER enables it (DESIGN CHOICE, assumption log 79). -/
def State.busRead (s : State) (onError : Exc) (pa : PAddr) (n : Nat) : Res Dword :=
  let a := foldAddress pa
  let s := s.await (busSide a)
  match s.region a with
  | .sdram => .ok (BitVec.ofNat 64 (s.mem.read a n)) s
  | .rom =>
    if n = 4 ∨ n = 8 then .ok (BitVec.ofNat 64 (s.mem.read a n)) s else (s.nmiCause nsrMAERR).openRead
  | .romOutside => .raise onError (s.nmiCause nsrMAERR)
  | .memReserved => (s.nmiCause nsrMAERR).openRead
  | .syscon => registerRead a n s fun be a s => s.readSyscon onError (a % 0x1000 / 4 * 4) be
  | .block b => registerRead a n s fun be a s => s.readBlock onError b (blockOffset b a) be
  | .ibusReserved => (s.nmiCause nsrIBERR).openRead
  | .pciWindow => .ok (BitVec.ofNat 64 (s.readWindow a n).1) (s.readWindow a n).2

/-- An uncached write of the low `n` bytes of `v` at physical address `pa`; it is posted and never raises an exception
(R135, R515). -/
def State.busWrite (s : State) (pa : PAddr) (n : Nat) (v : Dword) : State :=
  let a := foldAddress pa
  match s.regionAhead a with
  | .sdram => s.postMemory a n v.toNat
  | _ => s.post (.single pa n v)

/-! ### Bursts of four words (R145, R144) -/

/-- Open data for a burst read. -/
def State.openLine (s : State) : Res (BitVec 128) :=
  .ok (s.draw.2.draw.1 ++ s.draw.1 : BitVec 128) s.draw.2.draw.2

/-- The refill burst: the 16 bytes at the aligned address `pa` (R145). A burst read of the boot ROM is legal (90_conflicts.md C12, R138):
it delivers the words of the ROM and sets no bit of S_NSR. Registers do not accept a burst (R502). -/
def State.busReadLine (s : State) (onError : Exc) (pa : PAddr) : Res (BitVec 128) :=
  let a := foldAddress pa
  let s := s.await (busSide a)
  match s.region a with
  | .sdram => .ok (BitVec.ofNat 128 (s.mem.read a 16)) s
  | .rom => .ok (BitVec.ofNat 128 (s.mem.read a 16)) s
  | .romOutside => .raise onError (s.nmiCause nsrMAERR)
  | .memReserved => (s.nmiCause nsrMAERR).openLine
  | .syscon =>
    (registerBurst (fun be a s => s.readSyscon onError (a % 0x1000 / 4 * 4) be) (spanLanes a 16) a s).bind fun _ s => s.openLine
  | .block b =>
    (registerBurst (fun be a s => s.readBlock onError b (blockOffset b a) be) (spanLanes a 16) a s).bind fun _ s => s.openLine
  | .ibusReserved => (s.nmiCause nsrIBERR).openLine
  | .pciWindow => .ok (BitVec.ofNat 128 (s.readWindow a 16).1) (s.readWindow a 16).2

/-- The write-back burst of a data cache line at the aligned address `pa` (R144). -/
def State.busWriteLine (s : State) (pa : PAddr) (v : BitVec 128) : State :=
  let a := foldAddress pa
  match s.regionAhead a with
  | .sdram => s.postMemory a 16 v.toNat
  | _ => s.post (.burst pa v)

end Sys2Proof.Machine
end

