-- ==== Sys2Proof/Machine/Cache.lean ====
section
/-! DEFINITION. The caches (spec/20_memory.md R140–R147): direct mapped, virtually indexed, physically tagged, lines of 16
bytes. -/
namespace Sys2Proof.Machine

/-- PTag of a physical address (R141). -/
def tagOf (pa : PAddr) : BitVec 22 := pa.extractLsb' 10 22

/-- The aligned 16 bytes of a physical address. -/
def lineBase (pa : PAddr) : PAddr := pa &&& 0xFFFF_FFF0

/-- The number of the data cache line that an address selects: bits 12:4 (R141). -/
def dIndex (va : Dword) : Nat := (va.extractLsb' 4 9).toNat

/-- The number of the instruction cache line that an address selects: bits 13:4 (R141). -/
def iIndex (va : Dword) : Nat := (va.extractLsb' 4 10).toNat

/-- Line `i` of the data cache. -/
def State.dLine (s : State) (i : Nat) : DLine := cellGet {} s.dcache i

/-- Line `i` of the instruction cache. -/
def State.iLine (s : State) (i : Nat) : ILine := cellGet {} s.icache i

/-- Replace line `i` of the data cache. -/
def State.setDLine (s : State) (i : Nat) (l : DLine) : State := { s with dcache := cellSet {} s.dcache i l }

/-- Replace line `i` of the instruction cache. -/
def State.setILine (s : State) (i : Nat) (l : ILine) : State := { s with icache := cellSet {} s.icache i l }

/-- The line hits (R141). -/
def DLine.hit (l : DLine) (pa : PAddr) : Bool := l.v && l.ptag == tagOf pa

/-- The line hits (R141). -/
def ILine.hit (l : ILine) (pa : PAddr) : Bool := l.v && l.ptag == tagOf pa

/-- Where line `i` with tag `ptag` is written back to: the tag, and address bits 9:4 of the index (R144). -/
def writeBackAddress (i : Nat) (ptag : BitVec 22) : PAddr :=
  ((ptag ++ BitVec.ofNat 6 i : BitVec 28) ++ (0 : BitVec 4) : BitVec 32)

/-- Write line `i` back if it is dirty (R143, R144); its state is the caller's matter. The write is posted (R162). -/
def State.writeBackDirty (s : State) (i : Nat) : State :=
  let l := s.dLine i
  if l.v && l.w then s.busWriteLine (writeBackAddress i l.ptag) l.data else s

/-- Refill line `i` of the data cache (R145): clean and valid; after a bus error Invalid. -/
def State.refillD (s : State) (i : Nat) (pa : PAddr) : Res Unit :=
  match s.busReadLine .dbe (lineBase pa) with
  | .ok data s => .ok () (s.setDLine i { data := data, ptag := tagOf pa, v := true, d := (s.dLine i).d, w := false })
  | .raise e s => .raise e (s.setDLine i { s.dLine i with v := false, w := false })
  | .fault f => .fault f

/-- Bring the line of a reference into the data cache: nothing on a hit; on a miss a dirty line is written back first
(R143). -/
def State.fillD (s : State) (va : Dword) (pa : PAddr) : Res Unit :=
  if (s.dLine (dIndex va)).hit pa then .ok () s
  else (s.writeBackDirty (dIndex va)).refillD (dIndex va) pa

/-- Refill line `i` of the instruction cache (R142, R145); `onError` is the bus error of the reference. -/
def State.refillI (s : State) (onError : Exc) (i : Nat) (pa : PAddr) : Res Unit :=
  match s.busReadLine onError (lineBase pa) with
  | .ok data s => .ok () (s.setILine i { data := data, ptag := tagOf pa, v := true })
  | .raise e s => .raise e (s.setILine i { s.iLine i with v := false })
  | .fault f => .fault f

/-- The `n` bytes from offset `o` of a line. -/
def lineBytes (data : BitVec 128) (o n : Nat) : Dword := BitVec.ofNat 64 (data.toNat / 256 ^ o % 256 ^ n)

/-- A line with the low `n` bytes of `v` stored from offset `o` on. -/
def lineStore (data : BitVec 128) (o n : Nat) (v : Dword) : BitVec 128 :=
  merge (BitVec.ofNat 128 ((256 ^ n - 1) * 256 ^ o)) data (BitVec.ofNat 128 (v.toNat * 256 ^ o))

/-- A cached load of `n` bytes whose first byte lies at `first` (same line as `va`) (R143). -/
def State.cachedRead (s : State) (va : Dword) (pa : PAddr) (o n : Nat) : Res Dword :=
  (s.fillD va pa).bind fun _ s => .ok (lineBytes (s.dLine (dIndex va)).data o n) s

/-- The line of a cached store takes the low `n` bytes of `v` and becomes Valid dirty (R143). -/
def State.writeLine (s : State) (va : Dword) (o n : Nat) (v : Dword) : State :=
  let l := s.dLine (dIndex va)
  s.setDLine (dIndex va) { l with data := lineStore l.data o n v, w := true }

/-- A cached store of the low `n` bytes of `v` (R143). Its refill is a read: one that reports an error leaves the line Invalid, and the
store raises DBE (R12, R130 step 6, the last sentence of R135, R145). That a store never raises one on this chip (R135, R1145, R233 to
R240) is read as said of its own write, which is posted (DEDUCED, assumption log 64). -/
def State.cachedWrite (s : State) (va : Dword) (pa : PAddr) (o n : Nat) (v : Dword) : Res Unit :=
  (s.fillD va pa).bind fun _ s => .ok () (s.writeLine va o n v)

/-- A cached instruction fetch (R142). -/
def State.cachedFetch (s : State) (va : Dword) (pa : PAddr) : Res Dword :=
  let o := (va.extractLsb' 0 4).toNat
  if (s.iLine (iIndex va)).hit pa then .ok (lineBytes (s.iLine (iIndex va)).data o 4) s
  else (s.refillI .ibe (iIndex va) pa).bind fun _ s => .ok (lineBytes (s.iLine (iIndex va)).data o 4) s

/-! ### The operations of CACHE (R147, R442–R450) -/

/-- Index_Invalidate, instruction cache (R442). -/
def State.indexInvalidateI (s : State) (va : Dword) : Res Unit :=
  .ok () (s.setILine (iIndex va) { s.iLine (iIndex va) with v := false })

/-- Index_Write_Back_Invalidate, data cache (R443). -/
def State.indexWriteBackInvalidateD (s : State) (va : Dword) : Res Unit :=
  let s := s.writeBackDirty (dIndex va)
  .ok () (s.setDLine (dIndex va) { s.dLine (dIndex va) with v := false, w := false })

/-- TagLo for an instruction cache line (R60, R444). -/
def ILine.tagLo (l : ILine) : Word := (l.ptag ++ (0 : BitVec 10) : BitVec 32) ||| (if l.v then 0x200 else 0)

/-- TagLo for a data cache line (R60, R444). -/
def DLine.tagLo (l : DLine) : Word :=
  (l.ptag ++ (0 : BitVec 10) : BitVec 32) ||| (if l.v then 0x200 else 0) ||| (if l.d then 0x100 else 0) |||
    (if l.w then 0x080 else 0)

/-- Index_Load_Tag, instruction cache (R444). -/
def State.indexLoadTagI (s : State) (va : Dword) : Res Unit :=
  .ok () { s with cp0 := { s.cp0 with tagLo := (s.iLine (iIndex va)).tagLo } }

/-- Index_Load_Tag, data cache (R444). -/
def State.indexLoadTagD (s : State) (va : Dword) : Res Unit :=
  .ok () { s with cp0 := { s.cp0 with tagLo := (s.dLine (dIndex va)).tagLo } }

/-- Index_Store_Tag, instruction cache (R445). -/
def State.indexStoreTagI (s : State) (va : Dword) : Res Unit :=
  let t := s.cp0.tagLo
  .ok () (s.setILine (iIndex va) { s.iLine (iIndex va) with ptag := t.extractLsb' 10 22, v := t.getLsbD 9 })

/-- Index_Store_Tag, data cache (R445). -/
def State.indexStoreTagD (s : State) (va : Dword) : Res Unit :=
  let t := s.cp0.tagLo
  .ok () (s.setDLine (dIndex va) { s.dLine (dIndex va) with
    ptag := t.extractLsb' 10 22, v := t.getLsbD 9, d := t.getLsbD 8, w := t.getLsbD 7 })

/-- Create_Dirty_Exclusive (R446): after a miss the data of the line is whatever the array holds. -/
def State.createDirtyExclusive (s : State) (va : Dword) (pa : PAddr) : Res Unit :=
  let s := if (s.dLine (dIndex va)).hit pa then s else s.writeBackDirty (dIndex va)
  .ok () (s.setDLine (dIndex va) { s.dLine (dIndex va) with ptag := tagOf pa, v := true, w := true })

/-- Hit_Invalidate, instruction cache (R447). -/
def State.hitInvalidateI (s : State) (va : Dword) (pa : PAddr) : Res Unit :=
  if (s.iLine (iIndex va)).hit pa then s.indexInvalidateI va else .ok () s

/-- Hit_Invalidate, data cache (R447): dirty data are discarded. -/
def State.hitInvalidateD (s : State) (va : Dword) (pa : PAddr) : Res Unit :=
  if (s.dLine (dIndex va)).hit pa then
    .ok () (s.setDLine (dIndex va) { s.dLine (dIndex va) with v := false, w := false })
  else .ok () s

/-- Hit_Write_Back_Invalidate, data cache (R448). -/
def State.hitWriteBackInvalidateD (s : State) (va : Dword) (pa : PAddr) : Res Unit :=
  if (s.dLine (dIndex va)).hit pa then s.indexWriteBackInvalidateD va else .ok () s

/-- Fill, instruction cache (R449); a bus error is that of the instruction cache, IBE (R145). -/
def State.fillI (s : State) (va : Dword) (pa : PAddr) : Res Unit := s.refillI .ibe (iIndex va) pa

/-- Hit_Write_Back, data cache (R450): the line stays Valid clean. -/
def State.hitWriteBackD (s : State) (va : Dword) (pa : PAddr) : Res Unit :=
  if (s.dLine (dIndex va)).hit pa then
    let s := s.writeBackDirty (dIndex va)
    .ok () (s.setDLine (dIndex va) { s.dLine (dIndex va) with w := false })
  else .ok () s

/-- Hit_Write_Back, instruction cache (R450): written unconditionally, the line stays Valid. -/
def State.hitWriteBackI (s : State) (va : Dword) (pa : PAddr) : Res Unit :=
  let l := s.iLine (iIndex va)
  .ok () (if l.hit pa then s.busWriteLine (writeBackAddress (iIndex va) l.ptag) l.data else s)

/-- `CacheOp` (R441). An operation that is not in the table is undefined and does nothing (R451, U41, D37), as is any
operation on an uncached area. -/
def State.cacheOp (s : State) (op : BitVec 5) (va : Dword) (t : PAddr) : Res Unit :=
  match op.toNat with
  | 0 => s.indexInvalidateI va
  | 1 => s.indexWriteBackInvalidateD va
  | 4 => s.indexLoadTagI va
  | 5 => s.indexLoadTagD va
  | 8 => s.indexStoreTagI va
  | 9 => s.indexStoreTagD va
  | 13 => s.createDirtyExclusive va t
  | 16 => s.hitInvalidateI va t
  | 17 => s.hitInvalidateD va t
  | 20 => s.fillI va t
  | 21 => s.hitWriteBackInvalidateD va t
  | 24 => s.hitWriteBackI va t
  | 25 => s.hitWriteBackD va t
  | _ => .ok () s

end Sys2Proof.Machine
end

