-- ==== Sys2Proof/Machine/Mmu.lean ====
section
/-! DEFINITION. From a virtual to a physical address (spec/20_memory.md R104–R121): the segments and the TLB. -/
namespace Sys2Proof.Machine

/-- The class of a virtual address (R113). -/
inductive AddressClass where
  /-- The mode may not use the address. -/
  | error
  /-- The address is used without the TLB. -/
  | unmapped (pa : PAddr) (cached : Bool)
  /-- The TLB translates the address. -/
  | mapped
deriving DecidableEq, Repr

/-- The low 29 bits of an address in kseg0 or kseg1: the physical address (R109). -/
def unmappedAddress (a : Dword) : PAddr := (a.extractLsb' 0 29).zeroExtend 32

/-- kseg0 is cached unless Config.K0 = 010 (R121). -/
def State.kseg0Cached (s : State) : Bool := s.cp0.config.extractLsb' 0 3 != (0b010 : BitVec 3)

/-- Bits 31:29 of an address. -/
def segment (a : Dword) : Nat := (a.extractLsb' 29 3).toNat

/-- Classification with 32-bit addressing (R106, R107, R109, R112, R113). -/
def State.classify32 (s : State) (a : Dword) : AddressClass :=
  if a ≠ sext32 (low32 a) then .error
  else match segment a with
  | 4 => if s.mode = .kernel then .unmapped (unmappedAddress a) s.kseg0Cached else .error
  | 5 => if s.mode = .kernel then .unmapped (unmappedAddress a) false else .error
  | 6 => if s.mode = .user then .error else .mapped
  | 7 => if s.mode = .kernel then .mapped else .error
  | _ => if s.mode = .kernel ∧ s.erl then .unmapped (low32 a) false else .mapped

/-- The compatibility segments of the 64-bit maps: bits 61:31 are ones (R108, R110). -/
def State.classifyCompat (s : State) (a : Dword) : AddressClass :=
  match segment a with
  | 4 => if s.mode = .kernel then .unmapped (unmappedAddress a) s.kseg0Cached else .error
  | 5 => if s.mode = .kernel then .unmapped (unmappedAddress a) false else .error
  | 6 => .mapped
  | _ => if s.mode = .kernel then .mapped else .error

/-- Classification with 64-bit addressing (R106, R108, R110–R113). -/
def State.classify64 (s : State) (a : Dword) : AddressClass :=
  let high : BitVec 22 := a.extractLsb' 40 22
  match (a.extractLsb' 62 2).toNat with
  | 0 =>
    if high ≠ 0 then .error
    else if s.mode = .kernel ∧ s.erl ∧ a.extractLsb' 31 9 = (0 : BitVec 9) then .unmapped (low32 a) false
    else .mapped
  | 1 => if s.mode = .user ∨ high ≠ 0 then .error else .mapped
  | 2 =>
    if s.mode ≠ .kernel ∨ a.extractLsb' 32 27 ≠ (0 : BitVec 27) then .error
    else .unmapped (low32 a) (a.extractLsb' 59 3 != (0b010 : BitVec 3))
  | _ =>
    if s.mode = .user then .error
    else if a.extractLsb' 31 31 = (0x7FFF_FFFF : BitVec 31) then s.classifyCompat a
    else if s.mode = .kernel ∧ high = 0 ∧ a.extractLsb' 31 9 ≠ (0x1FF : BitVec 9) then .mapped
    else .error

/-- `classify` (R113). -/
def State.classify (s : State) (a : Dword) : AddressClass := if s.is64bitMode then s.classify64 a else s.classify32 a

/-! ### The TLB -/

/-- A VPN2 without the bits that MASK takes out of the comparison (R116). -/
def maskVpn2 (mask : Byte) (vpn2 : BitVec 29) : BitVec 29 := vpn2 &&& ~~~(mask.zeroExtend 29)

/-- `match(e, a)` (R116): `x` is 64-bit addressing, `asid` the current ASID. -/
def TlbEntry.hit (e : TlbEntry) (x : Bool) (asid : Byte) (a : Dword) : Bool :=
  let va := maskVpn2 e.mask (a.extractLsb' 11 29)
  let ve := maskVpn2 e.mask e.vpn2
  (e.g || e.asid == asid) &&
    (if x then a.extractLsb' 62 2 == e.r && va == ve else va.extractLsb' 0 21 == (ve.extractLsb' 0 21 : BitVec 21))

/-- EntryHi.ASID (R38). -/
def State.asid (s : State) : Byte := s.cp0.entryHi.extractLsb' 0 8

/-- The entries that match an address; none while the TLB is shut down (R66, R116). -/
def State.tlbHits (s : State) (a : Dword) : List (Fin 32) :=
  if s.tlbShutdown then [] else (List.finRange 32).filter fun i => s.tlb[i].hit s.is64bitMode s.asid a

/-- How many pairs of address bits the offset has beyond the ten of a 1-Kbyte page: half the ones of MASK (R116). -/
def pageShift (mask : Byte) : Nat :=
  ((List.range 8).filter fun i => mask.getLsbD i).length / 2

/-- The page of the pair that holds an address: chosen by the address bit above the offset (R116). -/
def TlbEntry.pageOf (e : TlbEntry) (a : Dword) : TlbPage :=
  if a.getLsbD (10 + 2 * pageShift e.mask) then e.page1 else e.page0

/-- The physical address (R116, D14): PFN above the offset, the virtual address below. -/
def pageAddress (mask : Byte) (pfn : BitVec 22) (a : Dword) : PAddr :=
  let k := pageShift mask
  let offset : PAddr := BitVec.ofNat 32 (2 ^ (10 + 2 * k) - 1)
  merge offset (pfn ++ (0 : BitVec 10) : BitVec 32) (low32 a)

/-- A physical address and whether the access is cached. -/
structure Target where
  /-- The physical address. -/
  pa : PAddr
  /-- The access goes through a cache. -/
  cached : Bool
deriving DecidableEq, Repr

/-- Translate a mapped address (R116). `load` selects TLBL or TLBS for the exceptions, `write` that the page must be
writable. Several matches shut the TLB down and miss (D12). -/
def State.tlbTranslate (s : State) (write : Bool) (a : Dword) : Res Target :=
  match s.tlbHits a with
  | [] => .raise (.tlbRefill write a) s
  | [i] =>
    let e := s.tlb[i]
    let p := e.pageOf a
    if !p.v then .raise (.tlbInvalid write a) s
    else if write && !p.d then .raise (.mod a) s
    else .ok { pa := pageAddress e.mask p.pfn a, cached := p.c != 0b010 } s
  | _ => .raise (.tlbRefill write a) { s with tlbShutdown := true }

/-- Segment and TLB checks of one reference (R118): `write` for a store. -/
def State.translate (s : State) (write : Bool) (a : Dword) : Res Target :=
  match s.classify a with
  | .error => .raise (.addressError write a) s
  | .unmapped pa cached => .ok { pa := pa, cached := cached } s
  | .mapped => s.tlbTranslate write a

end Sys2Proof.Machine
end

