-- ==== Sys2Proof/Machine/Operands.lean ====
section
/-! DEFINITION. The operand forms (spec/30_encoding.md R182): the effective address of a load, store or CACHE, the target
of a branch, and the target of a jump. Immediates are extended by `sext16` and `zext16` of Bits.lean. -/
namespace Sys2Proof.Machine

/-- `vaddr = GPR[base] + sext_16(offset)` modulo 2^64 (R103, R220). -/
def State.effectiveAddress (s : State) (base : Reg) (offset : Half) : Dword := s.getReg base + sext16 offset

/-- The branch target: the offset in words from the delay slot (R362). -/
def branchTarget (pc : Dword) (offset : Half) : Dword :=
  pc + 4 + (offset ++ (0 : BitVec 2) : BitVec 18).signExtend 64

/-- The target of J and JAL: within the 256-Mbyte block of the delay slot (R370). -/
def jumpTarget (pc : Dword) (target : BitVec 26) : Dword :=
  (((pc + 4).extractLsb' 28 36 ++ target : BitVec 62) ++ (0 : BitVec 2) : BitVec 64)

/-- The link address: the instruction behind the delay slot (R363). -/
def State.linkAddress (s : State) : Dword := s.pc + 8

end Sys2Proof.Machine
end

