-- ==== Sys2Proof/Machine/Access.lean ====
section
/-! DEFINITION. The access functions (spec/20_memory.md R130, R131, R134): loads, stores and instruction fetch. -/
namespace Sys2Proof.Machine

/-- The physical address of byte `lo` of the aligned doubleword that `pa` lies in. -/
def inDoubleword (pa : PAddr) (lo : Nat) : PAddr := (pa &&& 0xFFFF_FFF8) ||| BitVec.ofNat 32 lo

/-- The offset in its line of byte `lo` of the aligned doubleword of `va`. -/
def lineOffset (va : Dword) (lo : Nat) : Nat := (if va.getLsbD 3 then 8 else 0) + lo

/-- The physical doubleword is watched (R53, R134). -/
def State.watched (s : State) (write : Bool) (pa : PAddr) : Bool :=
  s.cp0.watchLo.getLsbD (if write then 0 else 1) && pa.extractLsb' 3 29 == (s.cp0.watchLo.extractLsb' 3 29 : BitVec 29)

/-- The Watch check (R134, R1152): a match is an exception, or held pending while EXL = 1. -/
def State.checkWatch (s : State) (write : Bool) (t : Target) : Res Target :=
  if s.watched write t.pa then
    (if s.exl then .ok t { s with watchPending := true } else .raise .watch s)
  else .ok t s

/-- Alignment, segment, TLB and Watch checks of a data reference to `va` (R130 steps 1 to 4): `va` must be a multiple of
`align`. -/
def State.dataTarget (s : State) (write : Bool) (align : Nat) (va : Dword) : Res Target :=
  if va.toNat % align ≠ 0 then .raise (.addressError write va) s
  else (s.translate write va).bind fun t s => s.checkWatch write t

/-- A load that refers to `va` and takes the `n` bytes from byte `lo` of its aligned doubleword (R130, R242). -/
def State.load (s : State) (align : Nat) (va : Dword) (lo n : Nat) : Res Dword :=
  (s.dataTarget false align va).bind fun t s =>
    if t.cached then s.cachedRead va t.pa (lineOffset va lo) n else s.busRead .dbe (inDoubleword t.pa lo) n

/-- A store that refers to `va` and writes the low `n` bytes of `v` from byte `lo` of its aligned doubleword on. -/
def State.store (s : State) (align : Nat) (va : Dword) (lo n : Nat) (v : Dword) : Res Unit :=
  (s.dataTarget true align va).bind fun t s =>
    if t.cached then s.cachedWrite va t.pa (lineOffset va lo) n v else .ok () (s.busWrite (inDoubleword t.pa lo) n v)

/-- The position of an address in its doubleword: bits 2:0. -/
def byteInDoubleword (va : Dword) : Nat := (va.extractLsb' 0 3).toNat

/-- The position of an address in its word: bits 1:0. -/
def byteInWord (va : Dword) : Nat := (va.extractLsb' 0 2).toNat

/-- `MemRead` (R130). -/
def State.memRead (s : State) (va : Dword) (n : Nat) : Res Dword := s.load n va (byteInDoubleword va) n

/-- `MemWrite` (R130). -/
def State.memWrite (s : State) (va : Dword) (n : Nat) (v : Dword) : Res Unit := s.store n va (byteInDoubleword va) n v

/-- The checks of an instruction fetch before the bus is used (R131, R118): alignment, segment, TLB. -/
def State.fetchTarget (s : State) : Res Target :=
  if s.pc.toNat % 4 ≠ 0 then .raise (.addressError false s.pc) s else s.translate false s.pc

/-- The instruction word at `va` is read (R131, R142). -/
def State.readInstruction (s : State) (va : Dword) (t : Target) : Res Dword :=
  if t.cached then s.cachedFetch va t.pa else s.busRead .ibe t.pa 4

/-- The state that an operation leaves whose result and whose exception are discarded. -/
def Res.left {α : Type} (x : Res α) (s : State) : State :=
  match x with
  | .ok _ t => t
  | .raise _ t => t
  | .fault _ => s

/-- The word at `va` is fetched and discarded, with what reading it does outside the core (R164). A translation that raises an exception
has no effect at all: it also leaves TLB_shutdown alone where several entries match the address, of which R66 does not speak (DESIGN CHOICE,
assumption log 67). -/
def State.fetchDiscarded (s : State) (va : Dword) : State :=
  match s.translate false va with
  | .ok t u => (u.readInstruction va t).left u
  | .raise _ _ => s
  | .fault _ => s

/-- Behind the delay slot of a taken branch the pipeline fetches what it then discards (R164): one instruction, as the branch
delay of R1242 is two cycles, one of them the slot's (DEDUCED, assumption log 67). -/
def State.fetchBehindSlot (s : State) : State :=
  match s.slot with
  | .delay (some _) => s.fetchDiscarded (s.pc + 4)
  | _ => s

/-- The word at the fetch target (R131). -/
def State.fetchWord (s : State) (t : Target) : Res Word :=
  (s.readInstruction s.pc t).bind fun d s => .ok (low32 d) s.fetchBehindSlot

end Sys2Proof.Machine
end

