-- ==== Sys2Proof/Machine/Flags.lean ====
section
/-! DEFINITION. The core has no condition flags (spec/10_state.md R26). What takes their place: the overflow conditions of
R261 and the comparisons of the set, branch and trap instructions (R264, R362, R405). -/
namespace Sys2Proof.Machine

/-- An exact value that does not fit in `w` bits of two's complement (R261). -/
def overflows (w : Nat) (x : Int) : Bool := decide (x < -(2 ^ (w - 1) : Int) ∨ (2 ^ (w - 1) : Int) ≤ x)

/-- Integer Overflow of a 32-bit sum (R261). -/
def addOverflow32 (a b : Word) : Bool := overflows 32 (a.toInt + b.toInt)

/-- Integer Overflow of a 32-bit difference (R261). -/
def subOverflow32 (a b : Word) : Bool := overflows 32 (a.toInt - b.toInt)

/-- Integer Overflow of a 64-bit sum (R261). -/
def addOverflow64 (a b : Dword) : Bool := overflows 64 (a.toInt + b.toInt)

/-- Integer Overflow of a 64-bit difference (R261). -/
def subOverflow64 (a b : Dword) : Bool := overflows 64 (a.toInt - b.toInt)

/-- Less than, as signed integers. -/
def lessSigned (a b : Dword) : Bool := decide (a.toInt < b.toInt)

/-- Less than, as unsigned integers. -/
def lessUnsigned (a b : Dword) : Bool := decide (a.toNat < b.toNat)

/-- The sign test of the branches: bit 63 (R362, D29). -/
def isNegative (a : Dword) : Bool := a.getLsbD 63

/-- The result of a set-on-less-than instruction: 1 or 0 (R264). -/
def boolDword (b : Bool) : Dword := if b then 1 else 0

end Sys2Proof.Machine
end

