-- ==== Sys2Proof/Machine/Alu.lean ====
section
/-! DEFINITION. Computational instructions (spec/41_alu.md). -/
namespace Sys2Proof.Machine

/-- An instruction whose only effect is to write a general register (R260). -/
def State.writeResult (s : State) (r : Reg) (v : Dword) : Out := .next (s.setReg r v).retire

/-- The same, unless the exact result overflows: then Integer Overflow, and the register keeps its value (R261). -/
def State.writeUnlessOverflow (s : State) (overflow : Bool) (r : Reg) (v : Dword) : Out :=
  if overflow then s.trap .ov else s.writeResult r v

/-- The low word of a register. -/
def State.word (s : State) (r : Reg) : Word := low32 (s.getReg r)

/-- The sign-extended immediate as a word. -/
def immWord (imm : Half) : Word := low32 (sext16 imm)

/-- ADDI (R262). -/
def execAddi (rt rs : Reg) (imm : Half) (s : State) : Out :=
  s.writeUnlessOverflow (addOverflow32 (s.word rs) (immWord imm)) rt (sext32 (s.word rs + immWord imm))

/-- ADDIU (R263). -/
def execAddiu (rt rs : Reg) (imm : Half) (s : State) : Out :=
  s.writeResult rt (sext32 (s.word rs + immWord imm))

/-- SLTI (R264). -/
def execSlti (rt rs : Reg) (imm : Half) (s : State) : Out :=
  s.writeResult rt (boolDword (lessSigned (s.getReg rs) (sext16 imm)))

/-- SLTIU (R265): the immediate is sign-extended, then compared unsigned. -/
def execSltiu (rt rs : Reg) (imm : Half) (s : State) : Out :=
  s.writeResult rt (boolDword (lessUnsigned (s.getReg rs) (sext16 imm)))

/-- ANDI (R266). -/
def execAndi (rt rs : Reg) (imm : Half) (s : State) : Out :=
  s.writeResult rt (s.getReg rs &&& zext16 imm)

/-- ORI (R267). -/
def execOri (rt rs : Reg) (imm : Half) (s : State) : Out :=
  s.writeResult rt (s.getReg rs ||| zext16 imm)

/-- XORI (R268). -/
def execXori (rt rs : Reg) (imm : Half) (s : State) : Out :=
  s.writeResult rt (s.getReg rs ^^^ zext16 imm)

/-- LUI (R269). -/
def execLui (rt : Reg) (imm : Half) (s : State) : Out :=
  s.writeResult rt (sext32 (imm ++ (0 : Half) : BitVec 32))

/-- DADDI (R270). -/
def execDaddi (rt rs : Reg) (imm : Half) (s : State) : Out :=
  s.need64 fun s =>
    s.writeUnlessOverflow (addOverflow64 (s.getReg rs) (sext16 imm)) rt (s.getReg rs + sext16 imm)

/-- DADDIU (R271). -/
def execDaddiu (rt rs : Reg) (imm : Half) (s : State) : Out :=
  s.need64 fun s => s.writeResult rt (s.getReg rs + sext16 imm)

/-- ADD (R272). -/
def execAdd (rd rs rt : Reg) (s : State) : Out :=
  s.writeUnlessOverflow (addOverflow32 (s.word rs) (s.word rt)) rd (sext32 (s.word rs + s.word rt))

/-- ADDU (R273). -/
def execAddu (rd rs rt : Reg) (s : State) : Out :=
  s.writeResult rd (sext32 (s.word rs + s.word rt))

/-- SUB (R274). -/
def execSub (rd rs rt : Reg) (s : State) : Out :=
  s.writeUnlessOverflow (subOverflow32 (s.word rs) (s.word rt)) rd (sext32 (s.word rs - s.word rt))

/-- SUBU (R275). -/
def execSubu (rd rs rt : Reg) (s : State) : Out :=
  s.writeResult rd (sext32 (s.word rs - s.word rt))

/-- AND (R276). -/
def execAnd (rd rs rt : Reg) (s : State) : Out :=
  s.writeResult rd (s.getReg rs &&& s.getReg rt)

/-- OR (R277). -/
def execOr (rd rs rt : Reg) (s : State) : Out :=
  s.writeResult rd (s.getReg rs ||| s.getReg rt)

/-- XOR (R278). -/
def execXor (rd rs rt : Reg) (s : State) : Out :=
  s.writeResult rd (s.getReg rs ^^^ s.getReg rt)

/-- NOR (R279). -/
def execNor (rd rs rt : Reg) (s : State) : Out :=
  s.writeResult rd (~~~(s.getReg rs ||| s.getReg rt))

/-- SLT (R280). -/
def execSlt (rd rs rt : Reg) (s : State) : Out :=
  s.writeResult rd (boolDword (lessSigned (s.getReg rs) (s.getReg rt)))

/-- SLTU (R281). -/
def execSltu (rd rs rt : Reg) (s : State) : Out :=
  s.writeResult rd (boolDword (lessUnsigned (s.getReg rs) (s.getReg rt)))

/-- DADD (R282). -/
def execDadd (rd rs rt : Reg) (s : State) : Out :=
  s.need64 fun s =>
    s.writeUnlessOverflow (addOverflow64 (s.getReg rs) (s.getReg rt)) rd (s.getReg rs + s.getReg rt)

/-- DADDU (R283). -/
def execDaddu (rd rs rt : Reg) (s : State) : Out :=
  s.need64 fun s => s.writeResult rd (s.getReg rs + s.getReg rt)

/-- DSUB (R284). -/
def execDsub (rd rs rt : Reg) (s : State) : Out :=
  s.need64 fun s =>
    s.writeUnlessOverflow (subOverflow64 (s.getReg rs) (s.getReg rt)) rd (s.getReg rs - s.getReg rt)

/-- DSUBU (R285). -/
def execDsubu (rd rs rt : Reg) (s : State) : Out :=
  s.need64 fun s => s.writeResult rd (s.getReg rs - s.getReg rt)

end Sys2Proof.Machine
end

