-- ==== Sys2Proof/Machine/Branch.lean ====
section
/-! DEFINITION. Jumps and branches (spec/44_jump_branch.md). -/
namespace Sys2Proof.Machine

/-- A branch to `offset` words from the delay slot (R362). -/
def State.branch (s : State) (taken likely : Bool) (offset : Half) : Out := s.jump taken likely (branchTarget s.pc offset)

/-- r31 takes the link address (R363). -/
def State.link (s : State) : State := s.setReg 31 s.linkAddress

/-- J (R370). -/
def execJ (target : BitVec 26) (s : State) : Out :=
  s.jump true false (jumpTarget s.pc target)

/-- JAL (R371). -/
def execJal (target : BitVec 26) (s : State) : Out :=
  s.link.jump true false (jumpTarget s.pc target)

/-- JALX (R377): MIPS16 is not available. -/
def execJalx (_target : BitVec 26) (s : State) : Out :=
  s.trap .ri

/-- JR (R372). -/
def execJr (rs : Reg) (s : State) : Out :=
  s.jump true false (s.getReg rs)

/-- JALR (R373): with rd = rs the result is undefined, so the link and the target are free values (U36). -/
def execJalr (rd rs : Reg) (s : State) : Out :=
  if rd = rs then (s.draw.2.draw.2.setReg rd s.draw.1).jump true false s.draw.2.draw.1
  else (s.setReg rd s.linkAddress).jump true false (s.getReg rs)

/-- BLEZ's condition (R382). -/
def State.notPositive (s : State) (rs : Reg) : Bool := isNegative (s.getReg rs) || s.getReg rs == 0

/-- BEQ (R380). -/
def execBeq (rs rt : Reg) (offset : Half) (s : State) : Out :=
  s.branch (s.getReg rs == s.getReg rt) false offset

/-- BNE (R381). -/
def execBne (rs rt : Reg) (offset : Half) (s : State) : Out :=
  s.branch (s.getReg rs != s.getReg rt) false offset

/-- BLEZ (R382). -/
def execBlez (rs : Reg) (offset : Half) (s : State) : Out :=
  s.branch (s.notPositive rs) false offset

/-- BGTZ (R383). -/
def execBgtz (rs : Reg) (offset : Half) (s : State) : Out :=
  s.branch (!s.notPositive rs) false offset

/-- BEQL (R384). -/
def execBeql (rs rt : Reg) (offset : Half) (s : State) : Out :=
  s.branch (s.getReg rs == s.getReg rt) true offset

/-- BNEL (R385). -/
def execBnel (rs rt : Reg) (offset : Half) (s : State) : Out :=
  s.branch (s.getReg rs != s.getReg rt) true offset

/-- BLEZL (R386). -/
def execBlezl (rs : Reg) (offset : Half) (s : State) : Out :=
  s.branch (s.notPositive rs) true offset

/-- BGTZL (R387). -/
def execBgtzl (rs : Reg) (offset : Half) (s : State) : Out :=
  s.branch (!s.notPositive rs) true offset

/-- BLTZ (R388). -/
def execBltz (rs : Reg) (offset : Half) (s : State) : Out :=
  s.branch (isNegative (s.getReg rs)) false offset

/-- BGEZ (R389). -/
def execBgez (rs : Reg) (offset : Half) (s : State) : Out :=
  s.branch (!isNegative (s.getReg rs)) false offset

/-- BLTZL (R390). -/
def execBltzl (rs : Reg) (offset : Half) (s : State) : Out :=
  s.branch (isNegative (s.getReg rs)) true offset

/-- BGEZL (R391). -/
def execBgezl (rs : Reg) (offset : Half) (s : State) : Out :=
  s.branch (!isNegative (s.getReg rs)) true offset

/-- BLTZAL (R392): r31 is written in any case. -/
def execBltzal (rs : Reg) (offset : Half) (s : State) : Out :=
  s.link.branch (isNegative (s.getReg rs)) false offset

/-- BGEZAL (R393): r31 is written in any case. -/
def execBgezal (rs : Reg) (offset : Half) (s : State) : Out :=
  s.link.branch (!isNegative (s.getReg rs)) false offset

/-- BLTZALL (R394): r31 is written in any case. -/
def execBltzall (rs : Reg) (offset : Half) (s : State) : Out :=
  s.link.branch (isNegative (s.getReg rs)) true offset

/-- BGEZALL (R395): r31 is written in any case. -/
def execBgezall (rs : Reg) (offset : Half) (s : State) : Out :=
  s.link.branch (!isNegative (s.getReg rs)) true offset

/-- BC0F (R396). -/
def execBc0f (offset : Half) (s : State) : Out :=
  s.needCop0 fun s => s.branch (!s.ch) false offset

/-- BC0T (R397). -/
def execBc0t (offset : Half) (s : State) : Out :=
  s.needCop0 fun s => s.branch s.ch false offset

/-- BC0FL (R398). -/
def execBc0fl (offset : Half) (s : State) : Out :=
  s.needCop0 fun s => s.branch (!s.ch) true offset

/-- BC0TL (R399). -/
def execBc0tl (offset : Half) (s : State) : Out :=
  s.needCop0 fun s => s.branch s.ch true offset

end Sys2Proof.Machine
end

