-- ==== Sys2Proof/Machine/Cp0.lean ====
section
/-! DEFINITION. System control coprocessor instructions (spec/46_cp0_tlb_cache_power.md). -/
namespace Sys2Proof.Machine

/-! ### Register moves -/

/-- PRId (R50). -/
def State.prid (s : State) : Word := 0x0000_0C00 ||| s.board.pridRev.zeroExtend 32

/-- Config as it reads: the fixed fields and the writable ones (R51). The field IC is 4, as R51 and conflict C7 say; the word
7002_5CC0H that R63 and R1202 print has 6 in its place (DEDUCED, assumption log 63). -/
def State.configNow (s : State) : Word :=
  0x0002_58C0 ||| (s.board.configEc.zeroExtend 32 <<< 28) ||| s.cp0.config

/-- CP0 register `n` as it reads; a 32-bit register stands in bits 31:0, RFU numbers read 0 (R28–R64). -/
def State.readCp0 (s : State) (n : Reg) : Dword :=
  match n.toNat with
  | 0 => zext32 s.cp0.index
  | 1 => s.cp0.random.zeroExtend 64
  | 2 => s.cp0.entryLo0
  | 3 => s.cp0.entryLo1
  | 4 => s.cp0.context
  | 5 => zext32 s.cp0.pageMask
  | 6 => s.cp0.wired.zeroExtend 64
  | 8 => s.cp0.badVAddr
  | 9 => zext32 s.cp0.count
  | 10 => s.cp0.entryHi
  | 11 => zext32 s.cp0.compare
  | 12 => zext32 s.statusNow
  | 13 => zext32 s.causeNow
  | 14 => s.cp0.epc
  | 15 => zext32 s.prid
  | 16 => zext32 s.configNow
  | 17 => zext32 s.cp0.llAddr
  | 18 => zext32 s.cp0.watchLo
  | 20 => s.cp0.xcontext
  | 26 => zext32 s.cp0.perr
  | 28 => zext32 s.cp0.tagLo
  | 30 => s.cp0.errorEpc
  | _ => 0

/-- The writable fields of the CP0 registers, written from a general register (the table of R431). -/
def Cp0.write (p : Cp0) (n : Reg) (v : Dword) : Cp0 :=
  let w := low32 v
  match n.toNat with
  | 0 => { p with index := merge 0x8000_001F p.index w }
  | 2 => { p with entryLo0 := v &&& 0x0FFF_FFFF }
  | 3 => { p with entryLo1 := v &&& 0x0FFF_FFFF }
  | 4 => { p with context := merge 0xFFFF_FFFF_FE00_0000 p.context v }
  | 5 => { p with pageMask := w &&& 0x0007_F800 }
  | 6 => { p with wired := w.extractLsb' 0 5, random := 31 }
  | 9 => { p with count := w }
  | 10 => { p with entryHi := v &&& 0xC000_00FF_FFFF_F8FF }
  | 11 => { p with compare := w, cause := setBit p.cause 15 false }
  | 12 => { p with status := w &&& 0x12D7_FFFF }
  | 13 => { p with cause := merge 0x0000_0300 p.cause w }
  | 14 => { p with epc := v }
  | 16 => { p with config := w &&& 0x0F80_0027 }
  | 17 => { p with llAddr := w }
  | 18 => { p with watchLo := w &&& 0xFFFF_FFFB }
  | 20 => { p with xcontext := merge 0xFFFF_FFF8_0000_0000 p.xcontext v }
  | 26 => { p with perr := w &&& 0x0000_00FF }
  | 28 => { p with tagLo := w &&& 0xFFFF_FF80 }
  | 30 => { p with errorEpc := v }
  | _ => p

/-- CP0 registers of 64 bits (R28, R432). -/
def cp0Is64 (n : Reg) : Bool := [2, 3, 4, 8, 10, 14, 20, 30].contains n.toNat

/-- A move to CP0 completes. A write of Wired leaves Random at 31, any other write lets it advance (R31, R35). -/
def State.writeCp0 (s : State) (n : Reg) (v : Dword) : Out :=
  if n = 6 then .next { s with cp0 := s.cp0.write n v }.advance else .next { s with cp0 := s.cp0.write n v }.retire

/-- MFC0 (R430). -/
def execMfc0 (rt rd : Reg) (s : State) : Out :=
  s.needCop0 fun s => s.writeResult rt (sext32 (low32 (s.readCp0 rd)))

/-- MTC0 (R431). -/
def execMtc0 (rt rd : Reg) (s : State) : Out :=
  s.needCop0 fun s => s.writeCp0 rd (s.getReg rt)

/-- DMFC0 (R432): of a 32-bit register the result is undefined (U39). -/
def execDmfc0 (rt rd : Reg) (s : State) : Out :=
  s.needCop0 fun s => s.need64 fun s =>
    if cp0Is64 rd then s.writeResult rt (s.readCp0 rd) else s.draw.2.writeResult rt s.draw.1

/-- DMTC0 (R433); a 32-bit register is written as by MTC0 (D35). -/
def execDmtc0 (rt rd : Reg) (s : State) : Out :=
  s.needCop0 fun s => s.need64 fun s => s.writeCp0 rd (s.getReg rt)

/-! ### TLB -/

/-- TLBP's result for Index (R435): of a miss only P = 1 is determined (U40). -/
def State.probeResult (s : State) : State :=
  match s.tlbHits s.cp0.entryHi with
  | [i] => { s with cp0 := { s.cp0 with index := BitVec.ofNat 32 i } }
  | hits =>
    let miss : State :=
      { s.draw.2 with cp0 := { s.cp0 with index := 0x8000_0000 ||| (low32 s.draw.1 &&& 0x1F) } }
    if hits.isEmpty then miss else { miss with tlbShutdown := true }

/-- TLBP (R435). -/
def execTlbp (s : State) : Out := s.needCop0 fun s => .next s.probeResult.retire

/-- EntryLo as TLBR loads it (R436). -/
def TlbPage.entryLo (p : TlbPage) (g : Bool) : Dword :=
  (p.pfn.zeroExtend 64 <<< 6) ||| (p.c.zeroExtend 64 <<< 3) ||| (if p.d then 4 else 0) ||| (if p.v then 2 else 0) |||
    (if g then 1 else 0)

/-- EntryHi as TLBR loads it (R436). -/
def TlbEntry.entryHi (e : TlbEntry) : Dword :=
  (e.r.zeroExtend 64 <<< 62) ||| ((maskVpn2 e.mask e.vpn2).zeroExtend 64 <<< 11) ||| e.asid.zeroExtend 64

/-- The registers after TLBR of entry `e` (R436). -/
def Cp0.loadEntry (p : Cp0) (e : TlbEntry) : Cp0 :=
  { p with
    pageMask := e.mask.zeroExtend 32 <<< 11
    entryHi := e.entryHi
    entryLo0 := e.page0.entryLo e.g
    entryLo1 := e.page1.entryLo e.g }

/-- The entry that Index selects (R434). -/
def Cp0.indexField (p : Cp0) : BitVec 5 := p.index.extractLsb' 0 5

/-- TLBR (R436). -/
def execTlbr (s : State) : Out :=
  s.needCop0 fun s => .next { s with cp0 := s.cp0.loadEntry (s.tlb[s.cp0.indexField.toNat]'(s.cp0.indexField.isLt)) }.retire

/-- The page that an EntryLo register describes (R32). -/
def pageOfEntryLo (v : Dword) : TlbPage :=
  { pfn := v.extractLsb' 6 22, c := v.extractLsb' 3 3, d := v.getLsbD 2, v := v.getLsbD 1 }

/-- PageMask.MASK (R34). -/
def Cp0.maskField (p : Cp0) : Byte := p.pageMask.extractLsb' 11 8

/-- The entry that the registers describe (R437). -/
def Cp0.entry (p : Cp0) : TlbEntry :=
  { mask := p.maskField
    r := p.entryHi.extractLsb' 62 2
    vpn2 := maskVpn2 p.maskField (p.entryHi.extractLsb' 11 29)
    g := p.entryLo0.getLsbD 0 && p.entryLo1.getLsbD 0
    asid := p.entryHi.extractLsb' 0 8
    page0 := pageOfEntryLo p.entryLo0
    page1 := pageOfEntryLo p.entryLo1 }

/-- The page sizes of Table 2-34 (R34). -/
def pageMaskDefined (m : Byte) : Bool := [0x00, 0x03, 0x0F, 0x3F, 0xFF].contains m.toNat

/-- `write_tlb` (R437): with a MASK that Table 2-34 does not list the operation is undefined (U10). -/
def State.writeTlb (s : State) (i : BitVec 5) : Out :=
  if pageMaskDefined s.cp0.maskField then .next { s with tlb := s.tlb.set i.toNat s.cp0.entry i.isLt }.retire
  else .fault .undefinedPageMask

/-- TLBWI (R437). -/
def execTlbwi (s : State) : Out := s.needCop0 fun s => s.writeTlb s.cp0.indexField

/-- TLBWR (R438). -/
def execTlbwr (s : State) : Out := s.needCop0 fun s => s.writeTlb s.cp0.random

/-! ### ERET, CACHE, power modes -/

/-- ERET (R439): no delay slot; in a delay slot its operation is undefined (R361). What the pipeline has fetched behind it is not read:
R164 speaks of the taken branch only (DESIGN CHOICE, assumption log 67). -/
def execEret (s : State) : Out :=
  s.needCop0 fun s =>
    match s.slot with
    | .delay _ => .fault .jumpInDelaySlot
    | .normal => .next s.stepRandom.returnFromException

/-- The effect of CACHE after its address checks (R440, R451). -/
def State.cacheEffect (s : State) (op : BitVec 5) (va : Dword) : Res Unit :=
  if va.toNat % 4 ≠ 0 then .raise (.addressError false va) s
  else (s.translate false va).bind fun t s => if t.cached then s.cacheOp op va t.pa else .ok () s

/-- CACHE (R440). -/
def execCache (op : BitVec 5) (base : Reg) (offset : Half) (s : State) : Out :=
  s.needCop0 fun s => (s.cacheEffect op (s.effectiveAddress base offset)).finish

/-- A power-mode instruction completes (R460–R463) once the SysAD bus is idle; in a delay slot the branch is completed first. -/
def State.stopPipeline (s : State) (m : PowerMode) : Out := .next { s.awaitSysAd.retire with power := m }

/-- STANDBY (R460). -/
def execStandby (s : State) : Out := s.needCop0 fun s => s.stopPipeline .standby

/-- SUSPEND (R461). -/
def execSuspend (s : State) : Out := s.needCop0 fun s => s.stopPipeline .suspend

/-- HIBERNATE (R462). -/
def execHibernate (s : State) : Out := s.needCop0 fun s => s.stopPipeline .hibernate

end Sys2Proof.Machine
end

