-- ==== Sys2Proof/Machine/LoadStore.lean ====
section
/-! DEFINITION. Loads and stores (spec/40_load_store.md). -/
namespace Sys2Proof.Machine

/-- Sign extension of the low `n` bytes. -/
def signBytes (n : Nat) (d : Dword) : Dword := (d.extractLsb' 0 (8 * n)).signExtend 64

/-- Zero extension of the low `n` bytes. -/
def zeroBytes (n : Nat) (d : Dword) : Dword := (d.extractLsb' 0 (8 * n)).zeroExtend 64

/-- A load completes: `rt` takes `f` of the data (R220). -/
def State.loadInto (rt : Reg) (f : Dword → Dword) (r : Res Dword) : Out :=
  (r.bind fun d s => .ok () (s.setReg rt (f d))).finish

/-- LWL's result: `b + 1` bytes at the left of the word `old` (R227). -/
def mergeWordLeft (b : Nat) (old m : Word) : Word := merge (0xFFFF_FFFF <<< (24 - 8 * b)) old (m <<< (24 - 8 * b))

/-- LWR's result: `4 - b` bytes at the right of the word `old` (R228). -/
def mergeWordRight (b : Nat) (old m : Word) : Word := merge (0xFFFF_FFFF >>> (8 * b)) old m

/-- LDL's result: `b + 1` bytes at the left of the doubleword `old` (R231). -/
def mergeDwordLeft (b : Nat) (old m : Dword) : Dword :=
  merge (0xFFFF_FFFF_FFFF_FFFF <<< (56 - 8 * b)) old (m <<< (56 - 8 * b))

/-- LDR's result: `8 - b` bytes at the right of the doubleword `old` (R232). -/
def mergeDwordRight (b : Nat) (old m : Dword) : Dword := merge (0xFFFF_FFFF_FFFF_FFFF >>> (8 * b)) old m

/-- The first byte of the aligned word that an address lies in, counted in its doubleword. -/
def wordInDoubleword (va : Dword) : Nat := if va.getLsbD 2 then 4 else 0

/-- LB (R222). -/
def execLb (rt base : Reg) (offset : Half) (s : State) : Out :=
  State.loadInto rt (signBytes 1) (s.memRead (s.effectiveAddress base offset) 1)

/-- LBU (R223). -/
def execLbu (rt base : Reg) (offset : Half) (s : State) : Out :=
  State.loadInto rt (zeroBytes 1) (s.memRead (s.effectiveAddress base offset) 1)

/-- LH (R224). -/
def execLh (rt base : Reg) (offset : Half) (s : State) : Out :=
  State.loadInto rt (signBytes 2) (s.memRead (s.effectiveAddress base offset) 2)

/-- LHU (R225). -/
def execLhu (rt base : Reg) (offset : Half) (s : State) : Out :=
  State.loadInto rt (zeroBytes 2) (s.memRead (s.effectiveAddress base offset) 2)

/-- LW (R226). -/
def execLw (rt base : Reg) (offset : Half) (s : State) : Out :=
  State.loadInto rt (signBytes 4) (s.memRead (s.effectiveAddress base offset) 4)

/-- LWL (R227). -/
def execLwl (rt base : Reg) (offset : Half) (s : State) : Out :=
  let va := s.effectiveAddress base offset
  let b := byteInWord va
  State.loadInto rt (fun m => sext32 (mergeWordLeft b (low32 (s.getReg rt)) (low32 m)))
    (s.load 1 va (wordInDoubleword va) (b + 1))

/-- LWR (R228). -/
def execLwr (rt base : Reg) (offset : Half) (s : State) : Out :=
  let va := s.effectiveAddress base offset
  let b := byteInWord va
  State.loadInto rt (fun m => sext32 (mergeWordRight b (low32 (s.getReg rt)) (low32 m)))
    (s.load 1 va (byteInDoubleword va) (4 - b))

/-- LWU (R229). -/
def execLwu (rt base : Reg) (offset : Half) (s : State) : Out :=
  s.need64 fun s => State.loadInto rt (zeroBytes 4) (s.memRead (s.effectiveAddress base offset) 4)

/-- LD (R230). -/
def execLd (rt base : Reg) (offset : Half) (s : State) : Out :=
  s.need64 fun s => State.loadInto rt (zeroBytes 8) (s.memRead (s.effectiveAddress base offset) 8)

/-- LDL (R231). -/
def execLdl (rt base : Reg) (offset : Half) (s : State) : Out :=
  s.need64 fun s =>
    let va := s.effectiveAddress base offset
    let b := byteInDoubleword va
    State.loadInto rt (fun m => mergeDwordLeft b (s.getReg rt) m) (s.load 1 va 0 (b + 1))

/-- LDR (R232). -/
def execLdr (rt base : Reg) (offset : Half) (s : State) : Out :=
  s.need64 fun s =>
    let va := s.effectiveAddress base offset
    let b := byteInDoubleword va
    State.loadInto rt (fun m => mergeDwordRight b (s.getReg rt) m) (s.load 1 va b (8 - b))

/-- SB (R233). -/
def execSb (rt base : Reg) (offset : Half) (s : State) : Out :=
  (s.memWrite (s.effectiveAddress base offset) 1 (s.getReg rt)).finish

/-- SH (R234). -/
def execSh (rt base : Reg) (offset : Half) (s : State) : Out :=
  (s.memWrite (s.effectiveAddress base offset) 2 (s.getReg rt)).finish

/-- SW (R235). -/
def execSw (rt base : Reg) (offset : Half) (s : State) : Out :=
  (s.memWrite (s.effectiveAddress base offset) 4 (s.getReg rt)).finish

/-- SWL (R236). -/
def execSwl (rt base : Reg) (offset : Half) (s : State) : Out :=
  let va := s.effectiveAddress base offset
  let b := byteInWord va
  (s.store 1 va (wordInDoubleword va) (b + 1) (zext32 (low32 (s.getReg rt) >>> (24 - 8 * b)))).finish

/-- SWR (R237). -/
def execSwr (rt base : Reg) (offset : Half) (s : State) : Out :=
  let va := s.effectiveAddress base offset
  (s.store 1 va (byteInDoubleword va) (4 - byteInWord va) (s.getReg rt)).finish

/-- SD (R238). -/
def execSd (rt base : Reg) (offset : Half) (s : State) : Out :=
  s.need64 fun s => (s.memWrite (s.effectiveAddress base offset) 8 (s.getReg rt)).finish

/-- SDL (R239). -/
def execSdl (rt base : Reg) (offset : Half) (s : State) : Out :=
  s.need64 fun s =>
    let va := s.effectiveAddress base offset
    let b := byteInDoubleword va
    (s.store 1 va 0 (b + 1) (s.getReg rt >>> (56 - 8 * b))).finish

/-- SDR (R240). -/
def execSdr (rt base : Reg) (offset : Half) (s : State) : Out :=
  s.need64 fun s =>
    let va := s.effectiveAddress base offset
    let b := byteInDoubleword va
    (s.store 1 va b (8 - b) (s.getReg rt)).finish

end Sys2Proof.Machine
end

