-- ==== Sys2Proof/Machine/MulDiv.lean ====
section
/-! DEFINITION. Multiply, divide, the moves of HI and LO, and multiply-accumulate (spec/43_muldiv_macc.md). -/
namespace Sys2Proof.Machine

/-- HI and LO are written and the instruction completes. -/
def State.writeHiLo (s : State) (hi lo : Dword) : Out := .next { s with hi := hi, lo := lo }.retire

/-- The two words of a 64-bit product or sum, each sign-extended, into HI and LO (R332). -/
def State.writeHiLoWords (s : State) (t : Dword) : Out := s.writeHiLo (sext32 (high32 t)) (sext32 (low32 t))

/-- The two halves of a 128-bit product into HI and LO (R336). -/
def State.writeHiLoDwords (s : State) (t : BitVec 128) : Out := s.writeHiLo (t.extractLsb' 64 64) (t.extractLsb' 0 64)

/-- A division by zero: HI and LO take any value (R334, U33). -/
def State.divideByZero (s : State) : Out := s.draw.2.draw.2.writeHiLo s.draw.1 s.draw.2.draw.1

/-- A 32-bit quotient and remainder of exact integers, truncated toward zero (R334, D31). -/
def State.divideWords (s : State) (n d : Int) : Out :=
  if d = 0 then s.divideByZero
  else s.writeHiLo (sext32 (BitVec.ofInt 32 (n.tmod d))) (sext32 (BitVec.ofInt 32 (n.tdiv d)))

/-- A 64-bit quotient and remainder of exact integers, truncated toward zero (R338, D31). -/
def State.divideDwords (s : State) (n d : Int) : Out :=
  if d = 0 then s.divideByZero
  else s.writeHiLo (BitVec.ofInt 64 (n.tmod d)) (BitVec.ofInt 64 (n.tdiv d))

/-- MULT (R332). -/
def execMult (rs rt : Reg) (s : State) : Out :=
  s.writeHiLoWords (BitVec.ofInt 64 ((s.word rs).toInt * (s.word rt).toInt))

/-- MULTU (R333). -/
def execMultu (rs rt : Reg) (s : State) : Out :=
  s.writeHiLoWords (BitVec.ofNat 64 ((s.word rs).toNat * (s.word rt).toNat))

/-- DIV (R334). -/
def execDiv (rs rt : Reg) (s : State) : Out :=
  s.divideWords (s.word rs).toInt (s.word rt).toInt

/-- DIVU (R335). -/
def execDivu (rs rt : Reg) (s : State) : Out :=
  s.divideWords (s.word rs).toNat (s.word rt).toNat

/-- DMULT (R336). -/
def execDmult (rs rt : Reg) (s : State) : Out :=
  s.need64 fun s => s.writeHiLoDwords (BitVec.ofInt 128 ((s.getReg rs).toInt * (s.getReg rt).toInt))

/-- DMULTU (R337). -/
def execDmultu (rs rt : Reg) (s : State) : Out :=
  s.need64 fun s => s.writeHiLoDwords (BitVec.ofNat 128 ((s.getReg rs).toNat * (s.getReg rt).toNat))

/-- DDIV (R338). -/
def execDdiv (rs rt : Reg) (s : State) : Out :=
  s.need64 fun s => s.divideDwords (s.getReg rs).toInt (s.getReg rt).toInt

/-- DDIVU (R339). -/
def execDdivu (rs rt : Reg) (s : State) : Out :=
  s.need64 fun s => s.divideDwords (s.getReg rs).toNat (s.getReg rt).toNat

/-- MFHI (R340). -/
def execMfhi (rd : Reg) (s : State) : Out :=
  s.writeResult rd s.hi

/-- MTHI (R341). -/
def execMthi (rs : Reg) (s : State) : Out :=
  s.writeHiLo (s.getReg rs) s.lo

/-- MFLO (R342). -/
def execMflo (rd : Reg) (s : State) : Out :=
  s.writeResult rd s.lo

/-- MTLO (R343). -/
def execMtlo (rs : Reg) (s : State) : Out :=
  s.writeHiLo s.hi (s.getReg rs)

/-- The product of two words added to an accumulator (R349, R350): `us` unsigned, `sat` saturated to 32 bits, else modulo
2^64. -/
def accumulate (sat us : Bool) (x y : Word) (acc : Dword) : Dword :=
  let a : Int := if us then x.toNat else x.toInt
  let b : Int := if us then y.toNat else y.toInt
  if !sat then BitVec.ofInt 64 (a * b + acc.toInt)
  else if us then
    let t : Int := a * b + acc.toNat
    if 0xFFFF_FFFF < t then 0xFFFF_FFFF_FFFF_FFFF else BitVec.ofInt 64 t
  else
    let t : Int := a * b + acc.toInt
    if 0x7FFF_FFFF < t then 0x0000_0000_7FFF_FFFF
    else if t < -0x8000_0000 then 0xFFFF_FFFF_8000_0000
    else BitVec.ofInt 64 t

/-- MACC (R349): the accumulator is HI[31:0] ‖ LO[31:0]; both halves are written sign-extended, and `rd` takes the new HI or
LO. -/
def State.macc (s : State) (sat hi us : Bool) (rd rs rt : Reg) : Out :=
  let t := accumulate sat us (s.word rs) (s.word rt) (low32 s.hi ++ low32 s.lo : BitVec 64)
  ({ s with hi := sext32 (high32 t), lo := sext32 (low32 t) } : State).writeResult rd
    (if hi then sext32 (high32 t) else sext32 (low32 t))

/-- DMACC (R350): the accumulator is LO; HI is never written, and `rd` takes HI or the new LO. -/
def State.dmacc (s : State) (sat hi us : Bool) (rd rs rt : Reg) : Out :=
  s.need64 fun s =>
    let t := accumulate sat us (s.word rs) (s.word rt) s.lo
    ({ s with lo := t } : State).writeResult rd (if hi then s.hi else t)

/-- MACC (R349). -/
def execMacc (rd rs rt : Reg) (s : State) : Out :=
  s.macc false false false rd rs rt

/-- MACCU (R349). -/
def execMaccu (rd rs rt : Reg) (s : State) : Out :=
  s.macc false false true rd rs rt

/-- MACCHI (R349). -/
def execMacchi (rd rs rt : Reg) (s : State) : Out :=
  s.macc false true false rd rs rt

/-- MACCHIU (R349). -/
def execMacchiu (rd rs rt : Reg) (s : State) : Out :=
  s.macc false true true rd rs rt

/-- MACCS (R349). -/
def execMaccs (rd rs rt : Reg) (s : State) : Out :=
  s.macc true false false rd rs rt

/-- MACCUS (R349). -/
def execMaccus (rd rs rt : Reg) (s : State) : Out :=
  s.macc true false true rd rs rt

/-- MACCHIS (R349). -/
def execMacchis (rd rs rt : Reg) (s : State) : Out :=
  s.macc true true false rd rs rt

/-- MACCHIUS (R349). -/
def execMacchius (rd rs rt : Reg) (s : State) : Out :=
  s.macc true true true rd rs rt

/-- DMACC (R350). -/
def execDmacc (rd rs rt : Reg) (s : State) : Out :=
  s.dmacc false false false rd rs rt

/-- DMACCU (R350). -/
def execDmaccu (rd rs rt : Reg) (s : State) : Out :=
  s.dmacc false false true rd rs rt

/-- DMACCHI (R350). -/
def execDmacchi (rd rs rt : Reg) (s : State) : Out :=
  s.dmacc false true false rd rs rt

/-- DMACCHIU (R350). -/
def execDmacchiu (rd rs rt : Reg) (s : State) : Out :=
  s.dmacc false true true rd rs rt

/-- DMACCS (R350). -/
def execDmaccs (rd rs rt : Reg) (s : State) : Out :=
  s.dmacc true false false rd rs rt

/-- DMACCUS (R350). -/
def execDmaccus (rd rs rt : Reg) (s : State) : Out :=
  s.dmacc true false true rd rs rt

/-- DMACCHIS (R350). -/
def execDmacchis (rd rs rt : Reg) (s : State) : Out :=
  s.dmacc true true false rd rs rt

/-- DMACCHIUS (R350). -/
def execDmacchius (rd rs rt : Reg) (s : State) : Out :=
  s.dmacc true true true rd rs rt

end Sys2Proof.Machine
end

