-- ==== Sys2Proof/Machine/Shift.lean ====
section
/-! DEFINITION. Shifts (spec/42_shift.md). Word shifts act on bits 31:0 and sign-extend; doubleword shifts need 64-bit
operations (R301). -/
namespace Sys2Proof.Machine

/-- The amount of a variable word shift: bits 4:0 (R301). -/
def State.amount5 (s : State) (rs : Reg) : Nat := ((s.getReg rs).extractLsb' 0 5).toNat

/-- The amount of a variable doubleword shift: bits 5:0 (R301). -/
def State.amount6 (s : State) (rs : Reg) : Nat := ((s.getReg rs).extractLsb' 0 6).toNat

/-- SLL (R302). -/
def execSll (rd rt : Reg) (sa : BitVec 5) (s : State) : Out :=
  s.writeResult rd (sext32 (s.word rt <<< sa.toNat))

/-- SRL (R303). -/
def execSrl (rd rt : Reg) (sa : BitVec 5) (s : State) : Out :=
  s.writeResult rd (sext32 (s.word rt >>> sa.toNat))

/-- SRA (R304). -/
def execSra (rd rt : Reg) (sa : BitVec 5) (s : State) : Out :=
  s.writeResult rd (sext32 ((s.word rt).sshiftRight sa.toNat))

/-- SLLV (R305). -/
def execSllv (rd rt rs : Reg) (s : State) : Out :=
  s.writeResult rd (sext32 (s.word rt <<< (s.amount5 rs)))

/-- SRLV (R306). -/
def execSrlv (rd rt rs : Reg) (s : State) : Out :=
  s.writeResult rd (sext32 (s.word rt >>> (s.amount5 rs)))

/-- SRAV (R307). -/
def execSrav (rd rt rs : Reg) (s : State) : Out :=
  s.writeResult rd (sext32 ((s.word rt).sshiftRight (s.amount5 rs)))

/-- DSLL (R308). -/
def execDsll (rd rt : Reg) (sa : BitVec 5) (s : State) : Out :=
  s.need64 fun s => s.writeResult rd (s.getReg rt <<< sa.toNat)

/-- DSRL (R309). -/
def execDsrl (rd rt : Reg) (sa : BitVec 5) (s : State) : Out :=
  s.need64 fun s => s.writeResult rd (s.getReg rt >>> sa.toNat)

/-- DSRA (R310). -/
def execDsra (rd rt : Reg) (sa : BitVec 5) (s : State) : Out :=
  s.need64 fun s => s.writeResult rd ((s.getReg rt).sshiftRight sa.toNat)

/-- DSLLV (R311). -/
def execDsllv (rd rt rs : Reg) (s : State) : Out :=
  s.need64 fun s => s.writeResult rd (s.getReg rt <<< (s.amount6 rs))

/-- DSRLV (R312). -/
def execDsrlv (rd rt rs : Reg) (s : State) : Out :=
  s.need64 fun s => s.writeResult rd (s.getReg rt >>> (s.amount6 rs))

/-- DSRAV (R313). -/
def execDsrav (rd rt rs : Reg) (s : State) : Out :=
  s.need64 fun s => s.writeResult rd ((s.getReg rt).sshiftRight (s.amount6 rs))

/-- DSLL32 (R314). -/
def execDsll32 (rd rt : Reg) (sa : BitVec 5) (s : State) : Out :=
  s.need64 fun s => s.writeResult rd (s.getReg rt <<< (32 + sa.toNat))

/-- DSRL32 (R315). -/
def execDsrl32 (rd rt : Reg) (sa : BitVec 5) (s : State) : Out :=
  s.need64 fun s => s.writeResult rd (s.getReg rt >>> (32 + sa.toNat))

/-- DSRA32 (R316). -/
def execDsra32 (rd rt : Reg) (sa : BitVec 5) (s : State) : Out :=
  s.need64 fun s => s.writeResult rd ((s.getReg rt).sshiftRight (32 + sa.toNat))

end Sys2Proof.Machine
end

