-- ==== Sys2Proof/Machine/Special.lean ====
section
/-! DEFINITION. SYSCALL, BREAK, SYNC, the traps (spec/45_special_trap.md), and the encodings that only raise an exception
(spec/30_encoding.md R184, R189). -/
namespace Sys2Proof.Machine

/-- A conditional trap (R405). -/
def State.trapIf (s : State) (cond : Bool) : Out := if cond then s.trap .tr else .next s.retire

/-- SYSCALL (R402). -/
def execSyscall (_code : BitVec 20) (s : State) : Out :=
  s.trap .sys

/-- BREAK (R403). -/
def execBreak (_code : BitVec 20) (s : State) : Out :=
  s.trap .bp

/-- SYNC (R404): a NOP (R161). -/
def execSync (s : State) : Out :=
  .next s.retire

/-- TGE (R410). -/
def execTge (rs rt : Reg) (_code : BitVec 10) (s : State) : Out :=
  s.trapIf (!lessSigned (s.getReg rs) (s.getReg rt))

/-- TGEU (R411). -/
def execTgeu (rs rt : Reg) (_code : BitVec 10) (s : State) : Out :=
  s.trapIf (!lessUnsigned (s.getReg rs) (s.getReg rt))

/-- TLT (R412). -/
def execTlt (rs rt : Reg) (_code : BitVec 10) (s : State) : Out :=
  s.trapIf (lessSigned (s.getReg rs) (s.getReg rt))

/-- TLTU (R413). -/
def execTltu (rs rt : Reg) (_code : BitVec 10) (s : State) : Out :=
  s.trapIf (lessUnsigned (s.getReg rs) (s.getReg rt))

/-- TEQ (R414). -/
def execTeq (rs rt : Reg) (_code : BitVec 10) (s : State) : Out :=
  s.trapIf (s.getReg rs == s.getReg rt)

/-- TNE (R415). -/
def execTne (rs rt : Reg) (_code : BitVec 10) (s : State) : Out :=
  s.trapIf (s.getReg rs != s.getReg rt)

/-- TGEI (R416). -/
def execTgei (rs : Reg) (imm : Half) (s : State) : Out :=
  s.trapIf (!lessSigned (s.getReg rs) (sext16 imm))

/-- TGEIU (R417). -/
def execTgeiu (rs : Reg) (imm : Half) (s : State) : Out :=
  s.trapIf (!lessUnsigned (s.getReg rs) (sext16 imm))

/-- TLTI (R418). -/
def execTlti (rs : Reg) (imm : Half) (s : State) : Out :=
  s.trapIf (lessSigned (s.getReg rs) (sext16 imm))

/-- TLTIU (R419). -/
def execTltiu (rs : Reg) (imm : Half) (s : State) : Out :=
  s.trapIf (lessUnsigned (s.getReg rs) (sext16 imm))

/-- TEQI (R420). -/
def execTeqi (rs : Reg) (imm : Half) (s : State) : Out :=
  s.trapIf (s.getReg rs == sext16 imm)

/-- TNEI (R421). -/
def execTnei (rs : Reg) (imm : Half) (s : State) : Out :=
  s.trapIf (s.getReg rs != sext16 imm)

/-- LL (R243). -/
def execLl (_rt _base : Reg) (_offset : Half) (s : State) : Out :=
  s.trap .ri

/-- LLD (R243). -/
def execLld (_rt _base : Reg) (_offset : Half) (s : State) : Out :=
  s.trap .ri

/-- SC (R243). -/
def execSc (_rt _base : Reg) (_offset : Half) (s : State) : Out :=
  s.trap .ri

/-- SCD (R243). -/
def execScd (_rt _base : Reg) (_offset : Half) (s : State) : Out :=
  s.trap .ri

/-- COP1 (R189). -/
def execCop1 (_rest : BitVec 26) (s : State) : Out :=
  s.trap (.cpu 1)

/-- LWC1 (R189). -/
def execLwc1 (_rt _base : Reg) (_offset : Half) (s : State) : Out :=
  s.trap (.cpu 1)

/-- LDC1 (R189). -/
def execLdc1 (_rt _base : Reg) (_offset : Half) (s : State) : Out :=
  s.trap (.cpu 1)

/-- SWC1 (R189). -/
def execSwc1 (_rt _base : Reg) (_offset : Half) (s : State) : Out :=
  s.trap (.cpu 1)

/-- SDC1 (R189). -/
def execSdc1 (_rt _base : Reg) (_offset : Half) (s : State) : Out :=
  s.trap (.cpu 1)

/-- COP2 (R189). -/
def execCop2 (_rest : BitVec 26) (s : State) : Out :=
  s.trap (.cpu 2)

/-- LWC2 (R189). -/
def execLwc2 (_rt _base : Reg) (_offset : Half) (s : State) : Out :=
  s.trap (.cpu 2)

/-- LDC2 (R189). -/
def execLdc2 (_rt _base : Reg) (_offset : Half) (s : State) : Out :=
  s.trap (.cpu 2)

/-- SWC2 (R189). -/
def execSwc2 (_rt _base : Reg) (_offset : Half) (s : State) : Out :=
  s.trap (.cpu 2)

/-- SDC2 (R189). -/
def execSdc2 (_rt _base : Reg) (_offset : Half) (s : State) : Out :=
  s.trap (.cpu 2)

end Sys2Proof.Machine
end

