-- ==== Sys2Proof/Machine/Dma.lean ====
section
/-! DEFINITION. How a block reaches system memory as a bus master (spec/20_memory.md R165), and the DMA structures that the
ATM, Ethernet and USB blocks share (spec/51_platform_atm.md R626–R631, spec/52_platform_ethernet.md R750): descriptors and
link pointers of two little-endian words each. -/
namespace Sys2Proof.Machine

/-- System memory as a bus master sees it in one of its accesses, by physical address. -/
structure Port where
  /-- The byte that a read delivers; none is an IBUS bus error. -/
  byte : Nat → Option Byte
  /-- Whether a write is performed; if not, it is an IBUS bus error. -/
  writable : Nat → Bool
  /-- The byte has been read. -/
  ready : Nat → Bool := fun _ => true

/-- One access of a bus master (R165): the bytes of system memory that it reads first, and what follows. -/
structure DmaStep (σ : Type) where
  /-- The address of the first byte read. -/
  addr : Nat := 0
  /-- How many bytes are read; 0 where none is. -/
  count : Nat := 0
  /-- The block afterwards, and the bytes that it stores in system memory. -/
  next : Port → σ × List Host.Cell

/-- An access that reads `n` bytes from `a` on and stores none. -/
def DmaStep.reading {σ : Type} (a : Word) (n : Nat) (f : Port → σ) : DmaStep σ :=
  { addr := a.toNat, count := n, next := fun p => (f p, []) }

/-- An access that reads nothing. -/
def DmaStep.storing {σ : Type} (f : Port → σ × List Host.Cell) : DmaStep σ := { next := f }

/-- No access: the block becomes `x`. -/
def DmaStep.pure {σ : Type} (x : σ) : DmaStep σ := { next := fun _ => (x, []) }

/-- The access `d` is possible if `c`; otherwise the block stays `x`. -/
def DmaStep.guard {σ : Type} (c : Bool) (x : σ) (d : DmaStep σ) : DmaStep σ := if c then d else .pure x

/-- The access `d` of the block `x` does something. -/
def DmaStep.acts {σ : Type} [DecidableEq σ] (p : Port) (x : σ) (d : DmaStep σ) : Bool :=
  d.count != 0 || decide ((d.next p).1 ≠ x)

/-- The byte at `a`; where the read fails, what the master takes for it is open. -/
def Port.data (p : Port) (a : Nat) : Byte := (p.byte a).getD (Config.dmaOpenByte a)

/-- The little-endian word at `a`. -/
def Port.word (p : Port) (a : Nat) : Word :=
  ((p.data (a + 3) ++ p.data (a + 2) : BitVec 16) ++ (p.data (a + 1) ++ p.data a : BitVec 16) : BitVec 32)

/-- The `n` bytes from `a` on. -/
def Port.bytes (p : Port) (a n : Nat) : List Byte := (List.range n).map fun i => p.data (a + i)

/-- The `n` bytes from `a` on can be read without a bus error. -/
def Port.reads (p : Port) (a n : Nat) : Bool := (List.range n).all fun i => (p.byte (a + i)).isSome

/-- The `n` bytes from `a` on have been read. -/
def Port.holds (p : Port) (a n : Nat) : Bool := (List.range n).all fun i => p.ready (a + i)

/-- All of the bytes can be written without a bus error. -/
def Port.writes (p : Port) (bytes : List Host.Cell) : Bool := bytes.all fun c => p.writable c.1

/-- The bytes of `bs` at the addresses from `a` on. -/
def bytesAt : Nat → List Byte → List Host.Cell
  | _, [] => []
  | a, b :: rest => (a, b) :: bytesAt (a + 1) rest

/-- The four bytes of a little-endian word at `a`. -/
def wordAt (a : Nat) (w : Word) : List Host.Cell := bytesAt a [byteOf 0 w, byteOf 1 w, byteOf 2 w, byteOf 3 w]

/-- The words of a list from `a` on. -/
def wordsAt : Nat → List Word → List Host.Cell
  | _, [] => []
  | a, w :: rest => wordAt a w ++ wordsAt (a + 4) rest

/-- D/L of word 0: 1 = buffer descriptor, 0 = link pointer. -/
def isBuffer (w0 : Word) : Bool := w0.getLsbD 30

/-- L of word 0: the last buffer. -/
def isLast (w0 : Word) : Bool := w0.getLsbD 31

/-- The size field of word 0 of a descriptor. -/
def descSize (w0 : Word) : Nat := (w0.extractLsb' 0 16).toNat

/-- The 16-bit number at octets `i` and `i + 1` of a frame or packet, the first octet sent high. -/
def octetPair (bs : List Byte) (i : Nat) : Nat := 256 * (bs.getD i 0).toNat + (bs.getD (i + 1) 0).toNat

/-- How many bytes a burst from byte address `a` on carries: at least one word, at most `longest` words and the `left` bytes that
are to be moved. Every access is a word or a burst of words (R165), so that only the first word and the one with the last of these
bytes can be used in part: where a FIFO has room for, or holds, fewer bytes (`room`), the burst ends at a word boundary. -/
def burstLength (proposed longest : Nat) (a : Word) (left room : Nat) : Nat :=
  let n := min (4 * min (max 1 proposed) longest - a.toNat % 4) left
  if n ≤ room then n else room - (a.toNat + room) % 4

/-- A port whose reads find the bytes of `cells` where there are any. -/
def Port.over (p : Port) (cells : List Host.Cell) : Port where
  byte a := (cells.lookup a).or (p.byte a)
  writable := p.writable

/-- The buffer after `n` of its bytes have been used. -/
def DmaBuffer.skip (b : DmaBuffer) (n : Nat) : DmaBuffer :=
  { b with addr := b.addr + BitVec.ofNat 32 n, left := b.left - n }

end Sys2Proof.Machine
end

