-- ==== Sys2Proof/Machine/AtmFirmware.lean ====
section
/-! DEFINITION. What the firmware of the ATM cell processor does (spec/51_platform_atm.md R625–R665): the commands, the tables
of the work RAM, transmission, reception and the indications: the actions of the agent "ATM firmware" of R681. -/
namespace Sys2Proof.Machine

/-! ### One action -/

/-- An action of the firmware under way: the block, the words it has put into the work RAM and into the lookup table (latest
first), the writes to system memory that it leaves, and what appears in the registers once they have been made. -/
structure AtmAct where
  /-- The block; its work RAM and lookup table are those from before the action. -/
  atm : Atm
  /-- Words put into the work RAM, by offset / 4. -/
  work : List (Nat × Word) := []
  /-- Words put into the lookup table, by RISC-core address / 4. -/
  table : List (Nat × Word) := []
  /-- The writes to system memory, transfer by transfer. -/
  stores : List (List Host.Cell) := []
  /-- Bits of A_GSR that the action sets. -/
  flags : Word := 0
  /-- The mailbox that an indication goes to, and its A_MWAn afterwards. -/
  mwa : Option (Fin 4 × Word) := none

/-- Word `k` of the work RAM. -/
def AtmAct.word (x : AtmAct) (k : Nat) : Word := cellGet (cellGet 0 x.atm.workRam k) x.work k

/-- Put a word into the work RAM. The temporary data area 80_0000H–80_003FH is never put to: the rule says that it buffers DMA
data and not what it holds, so it keeps what software wrote (R645; DESIGN CHOICE, assumption log 69). -/
def AtmAct.put (x : AtmAct) (k : Nat) (v : Word) : AtmAct := { x with work := (k, v) :: x.work }

/-- Put the bits of `mask` of a word into the work RAM. -/
def AtmAct.putBits (x : AtmAct) (mask : Word) (k : Nat) (v : Word) : AtmAct := x.put k (merge mask (x.word k) v)

/-- Change the block. -/
def AtmAct.map (x : AtmAct) (f : Atm → Atm) : AtmAct := { x with atm := f x.atm }

/-- Set bits of A_GSR (R607). -/
def AtmAct.flag (x : AtmAct) (bits : Word) : AtmAct := { x with flags := x.flags ||| bits }

/-- What working on an action comes to. -/
inductive AtmTry (α : Type) where
  /-- The action is decided on. -/
  | done (a : α)
  /-- The firmware has first to read the `count` bytes from `addr` on. -/
  | read (addr count : Nat)
  /-- The action is not possible now. -/
  | idle

/-- Go on with the result, if there is one. -/
def AtmTry.bind {α β : Type} (t : AtmTry α) (f : α → AtmTry β) : AtmTry β :=
  match t with
  | .done a => f a
  | .read addr count => .read addr count
  | .idle => .idle

/-- Change the result, if there is one. -/
def AtmTry.map {α β : Type} (f : α → β) (t : AtmTry α) : AtmTry β := t.bind fun a => .done (f a)

/-- Go on with `t` once the `n` bytes from `a` on have been read. -/
def AtmTry.needs {α : Type} (p : Port) (a n : Nat) (t : AtmTry α) : AtmTry α := if p.holds a n then t else .read a n

/-- Store bytes in system memory. -/
def AtmAct.store (bytes : List Host.Cell) (x : AtmAct) : AtmAct := { x with stores := x.stores ++ [bytes] }

/-- An indication into mailbox `n` (R670); not possible while the mailbox takes none. -/
def AtmAct.indicate (n : Fin 4) (words : List Word) (x : AtmAct) : AtmTry AtmAct :=
  match x.atm.indicate n with
  | none => .idle
  | some r => .done ({ x with mwa := some (n, r.2) }.store (wordsAt r.1 words))

/-- A received cell is discarded inside the block (R614). -/
def AtmAct.discard (x : AtmAct) : AtmAct := x.map fun a => { a with ridc := a.ridc + 1 }

/-! ### The tables of the work RAM (R645) -/

/-- Word `i` of the VC table of VC number `v`: blocks of 16 words from 80_0040H on, block n being VC number n + 1. -/
def vcWord (v i : Nat) : Nat := 16 * v + i

/-- Word `i` of packet information table `k`: 4 words each from 80_1440H on. -/
def infoWord (k i : Nat) : Nat := 0x510 + 4 * k + i

/-- The address of packet information table `k`, as FIRST, LAST and NEXT hold it (R652, R653): its low 16 bits, also in the whole word of
NEXT POINTER, of which R652 says only that it is the address (DESIGN CHOICE, assumption log 75). -/
def infoAddress (k : Nat) : Word := BitVec.ofNat 32 (0x1440 + 16 * k)

/-- The packet information table at an address. -/
def infoIndex (addr : Word) : Fin 64 := Fin.ofNat 64 ((addr.toNat - 0x1440) / 16)

/-- Word `i` of the descriptor of pool `n` (R630): 2 words each from 80_1840H on. -/
def poolWord (n : Fin 8) (i : Nat) : Nat := 0x610 + 2 * n.val + i

/-- The VC number names an open VC. -/
def Atm.isOpen (a : Atm) (v : Nat) : Bool := decide (1 ≤ v) && a.vcUsed.getLsbD (v - 1)

/-- The VC number in a command (R638, R639). -/
def atmCmdVc (cmd : Word) : Nat := (cmd.extractLsb' 6 12).toNat

/-- The cell header of a packet before PTI and CLP of each cell are set (R651): GFC, VPI/VCI and PTI without its last bit. GFC
is the descriptor's (R625 against R650, left open by conflict C33; DESIGN CHOICE, assumption log 60). -/
def atmHeader (desc vpiVci : Word) : Word :=
  ((desc.extractLsb' 20 4).zeroExtend 32 <<< 28) ||| ((vpiVci &&& 0x00FF_FFFF) <<< 4) |||
  ((if desc.getLsbD 26 then (desc.extractLsb' 24 3).zeroExtend 32 else (desc.extractLsb' 24 3).zeroExtend 32 &&& 6) <<< 1)

/-! ### The T1 timer list (R660, R661) -/

/-- BACKWARD POINTER, LST and FORWARD POINTER of every VC of the list (word 15 of the Rx VC table); `back` is the VC before
it. BACKWARD POINTER of the first VC and FORWARD POINTER of the last one are 0: R661 gives them no value (DESIGN CHOICE, assumption log
75). -/
def AtmAct.linkT1 (back : Nat) : List (Nat × Word) → AtmAct → AtmAct
  | [], x => x
  | e :: rest, x =>
    let forward := match rest with | [] => 0 | n :: _ => n.1
    let lst : Word := if rest.isEmpty then 0x8000 else 0
    AtmAct.linkT1 e.1 rest
      (x.put (vcWord e.1 15) ((BitVec.ofNat 32 back <<< 16) ||| lst ||| BitVec.ofNat 32 forward))

/-- The T1 list becomes `l`. -/
def AtmAct.setT1 (l : List (Nat × Word)) (x : AtmAct) : AtmAct := (x.map fun a => { a with t1List := l }).linkT1 0 l

/-- VC number `v` leaves the T1 list. Word 15 of its own table keeps its old pointers and LST, of which R661 says nothing (DESIGN CHOICE,
assumption log 73). -/
def AtmAct.leaveT1 (v : Nat) (x : AtmAct) : AtmAct :=
  if x.atm.t1List.any fun e => e.1 == v then x.setT1 (x.atm.t1List.filter fun e => e.1 != v) else x

/-! ### Receive pools (R629–R631, R640) -/

/-- The directories left in pool `n`. -/
def AtmAct.remaining (n : Fin 8) (x : AtmAct) : Nat := ((x.word (poolWord n 0)).extractLsb' 0 16).toNat

/-- A_RQA of pool `n` and A_GSR.RQA follow the pool (R609, R630): fewer directories than four times the alert level. They do so when a
directory is allocated and with Add_Buffers; a pool descriptor that software writes by Indirect_Access acts with the next of these
(DESIGN CHOICE, assumption log 69). -/
def AtmAct.alert (n : Fin 8) (x : AtmAct) : AtmAct :=
  let low := decide (x.remaining n < 4 * ((x.word (poolWord n 0)).extractLsb' 24 4).toNat)
  (x.map fun a => { a with rqa := setBit a.rqa n low }).flag (if low then 0x4000_0000 else 0)

/-- A_RQU of pool `n` and A_GSR.RQU: no free buffer (R609, R665). -/
def AtmAct.underflow (n : Fin 8) (x : AtmAct) : AtmAct :=
  (x.map fun a => { a with rqu := setBit a.rqu n true }).flag 0x2000_0000

/-- Pool `n` has no directory to give: none is left, or the address of the first one is null, whatever the count (R631; DESIGN CHOICE,
assumption log 78). -/
def AtmAct.isEmpty (n : Fin 8) (x : AtmAct) : Bool := decide (x.remaining n = 0) || x.word (poolWord n 1) == 0

/-- Allocate a buffer directory of pool `n`: its address; none if the pool is empty. The next directory is the one that its
link pointer names; at a null pointer, the oldest one that Add_Buffers has put behind the chain. A link that could not be read counts as
a null pointer, so that only directories handed over are used (R681; DESIGN CHOICE, assumption log 78). -/
def AtmAct.allocate (p : Port) (n : Fin 8) (x : AtmAct) : AtmTry (Option (Word × AtmAct)) :=
  let w0 := x.word (poolWord n 0)
  let dir := x.word (poolWord n 1)
  let link := dir.toNat + 8 * (w0.extractLsb' 16 8).toNat
  if x.isEmpty n then .done none
  else .needs p link 8 <|
    let w1 := if p.reads link 8 then p.word (link + 4) else 0
    let x := x.put (poolWord n 0) (w0 - 1)
    let x := if w1 = 0 then
        (x.put (poolWord n 1) (x.atm.added[n].headD 0)).map fun a => { a with added := a.added.set n a.added[n].tail }
      else x.put (poolWord n 1) w1
    .done (some (dir, x.alert n))

/-- Whole words of a receive buffer only are filled: the VC table counts free words (R661; DEDUCED). -/
def wholeWords (n : Nat) : Nat := n / 4 * 4

/-- A buffer descriptor, which could be read, stands at `a`. -/
def Port.bufferAt (p : Port) (a : Nat) : Bool := p.reads a 8 && isBuffer (p.word a)

/-- Move to a receive buffer with free space, over at most `fuel` entries: the next descriptor, or behind the last one of the
directory the first of a directory that the pool gives. None where the pool is empty or the entries do not end. A descriptor that could
not be read, besides BER, ends its directory, so that only descriptors handed over are used (R681; DESIGN CHOICE, assumption log 78). -/
def AtmAct.nextBuffer (p : Port) (n : Fin 8) : Nat → AtmCursor → AtmAct → AtmTry (Option (AtmCursor × AtmAct))
  | 0, _, _ => .done none
  | fuel + 1, c, x =>
    let w0 := p.word c.next.toNat
    if 0 < c.left then .done (some (c, x))
    else if c.next ≠ 0 && !p.holds c.next.toNat 8 then .read c.next.toNat 8
    else if c.next ≠ 0 && p.bufferAt c.next.toNat then
      AtmAct.nextBuffer p n fuel
        { c with addr := p.word (c.next.toNat + 4), left := wholeWords (descSize w0), next := c.next + 8 } x
    else
      (x.allocate p n).bind fun r =>
        match r with
        | none => .done none
        | some (dir, x) =>
          .needs p dir.toNat 8 <|
            if p.bufferAt dir.toNat then AtmAct.nextBuffer p n fuel { c with left := 0, next := dir } x else .done none

/-- How many entries one action passes over at most: enough for a directory of 255 descriptors and the next one. -/
def atmFuel : Nat := 600

/-- Put the bytes into receive buffers, over at most `fuel` of them; none where the pool runs out. -/
def AtmAct.scatter (p : Port) (n : Fin 8) : Nat → List Byte → AtmCursor → AtmAct → AtmTry (Option (AtmCursor × AtmAct))
  | 0, _, _, _ => .done none
  | fuel + 1, bytes, c, x =>
    if bytes.isEmpty then .done (some (c, x))
    else
      (x.nextBuffer p n atmFuel c).bind fun r =>
        match r with
        | none => .done none
        | some (c, x) =>
          let k := min c.left bytes.length
          AtmAct.scatter p n fuel (bytes.drop k)
            { c with addr := c.addr + BitVec.ofNat 32 k, left := c.left - k }
            (x.store (bytesAt c.addr.toNat (bytes.take k)))

/-! ### Commands (R635–R641) -/

/-- A command ends: BSY = 0 and the result in A_CMR. -/
def AtmAct.result (r : Word) (x : AtmAct) : AtmAct := x.map fun a => { a with cmr := r &&& 0x7FFF_FFFF }

/-- Set_Link_Rate (R636): no result. -/
def AtmAct.setLinkRate (x : AtmAct) : AtmAct :=
  let cmd := x.atm.cmr
  (x.map fun a => { a with linkRate := cmd.extractLsb' 0 16, linkPhy := cmd.extractLsb' 16 11 }).result cmd

/-- The block that Open_Channel gives out: `block` if it is free, else the first free one. -/
def Atm.freeBlock (a : Atm) (block : Fin 64) : Option (Fin 64) :=
  if a.vcUsed.getLsbD block then (List.finRange 64).find? fun n => !a.vcUsed.getLsbD n else some block

/-- Open_Channel (R637): which free block is taken is not stated (`block`). -/
def AtmAct.openChannel (fill : Word) (block : Fin 64) (x : AtmAct) : AtmAct :=
  match x.atm.freeBlock block with
  | none => x.result (fill &&& 0xFFFC_0000)
  | some n =>
    (x.map fun a => { a with vcUsed := setBit a.vcUsed n true }).result
      ((fill &&& 0xFFFC_0000) ||| (BitVec.ofNat 32 (n.val + 1) <<< 6))

/-- Close_Channel (R638). Packets still queued on the channel stay in their information tables (DESIGN CHOICE, assumption log
60). The R/T bit is not compared with the kind of the channel: whether a mismatch is an error is not stated (DESIGN CHOICE,
assumption log 69). -/
def AtmAct.closeChannel (fill : Word) (x : AtmAct) : AtmAct :=
  let v := atmCmdVc x.atm.cmr
  if x.atm.isOpen v then
    ((x.leaveT1 v).map fun a => { a with vcUsed := setBit a.vcUsed (v - 1) false }).result
      ((fill &&& 0xFEFC_0000) ||| (BitVec.ofNat 32 v <<< 6))
  else x.result ((fill &&& 0xFEFC_0000) ||| 0x0100_0000)

/-- The packet information tables from address `first` on, at most `fuel` of them. -/
def AtmAct.queueLength (x : AtmAct) : Nat → Word → Nat
  | 0, _ => 0
  | fuel + 1, first =>
    if first = 0 then 0 else 1 + x.queueLength fuel (x.word (infoWord (infoIndex first) 0) &&& 0xFFFF)

/-- FIRST PACKET INFO of VC number `v` (R653). -/
def AtmAct.firstInfo (x : AtmAct) (v : Nat) : Word := (x.word (vcWord v 15)) >>> 16

/-- Start the packet of information table `k` in the VC table (R650 d, R653). -/
def AtmAct.startPacket (v : Nat) (k : Fin 64) (x : AtmAct) : AtmAct :=
  (((((x.put (vcWord v 0) (x.word (infoWord k 2))).putBits 0x8000_0000 (vcWord v 1) 0).put (vcWord v 2) 0).put
    (vcWord v 3) 0xFFFF_FFFF).put (vcWord v 5) (x.word (infoWord k 3))).putBits 0x8000_0000 (vcWord v 7) 0x8000_0000

/-- Put the packet of the descriptor at `desc` into information table `k` and behind the queue of VC number `v` (R650 d,
R652). CELL HEADER is made here, with word 1 of the VC table as it stands, and serves all cells of the packet (R650 e, R652; DESIGN
CHOICE, assumption log 69). -/
def AtmAct.queuePacket (p : Port) (v : Nat) (k : Fin 64) (desc : Word) (x : AtmAct) : AtmAct :=
  let w0 := p.word desc.toNat
  let first := x.firstInfo v
  let last := x.word (vcWord v 15) &&& 0xFFFF
  let x := (((((x.put (infoWord k 0) 0).put (infoWord k 1) (atmHeader w0 (x.word (vcWord v 1)))).put (infoWord k 2) w0).put
    (infoWord k 3) (p.word (desc.toNat + 4)))).map fun a => { a with infoUsed := a.infoUsed.set k (some desc) }
  if first = 0 then (x.put (vcWord v 15) ((infoAddress k <<< 16) ||| infoAddress k)).startPacket v k
  else (x.put (infoWord (infoIndex last) 0) (infoAddress k)).put (vcWord v 15) ((first <<< 16) ||| infoAddress k)

/-- A transmit indication (R655) into mailbox 2 or 3, by MB of the descriptor; none is written with IM = 1. -/
def AtmAct.txIndicate (ok : Bool) (v : Nat) (active : Bool) (w0 desc : Word) (x : AtmAct) : AtmTry AtmAct :=
  if w0.getLsbD 19 then .done x
  else
    x.indicate (if w0.getLsbD 16 then 3 else 2)
      [(if ok then 0x8000_0000 else 0) ||| (BitVec.ofNat 32 v <<< 16) ||| (if active then 0x8000 else 0) |||
        (desc &&& 0x7FFF)]

/-- The information table that the next packet gets: none if the VC has 16 or all are in use (R652). Of the free ones it is the first,
which R652 does not state although FIRST, LAST and NEXT show its address (DESIGN CHOICE, assumption log 75). -/
def AtmAct.freeInfo (v : Nat) (x : AtmAct) : Option (Fin 64) :=
  if 16 ≤ x.queueLength 16 (x.firstInfo v) then none else (List.finRange 64).find? fun k => x.atm.infoUsed[k].isNone

/-- Tx_Ready (R639). For lack of an information table the error is told in a transmit indication as well (R652); while the
mailbox takes none the command waits. A packet descriptor that cannot be read gives E, besides BER, and no indication, which is not
stated (DESIGN CHOICE, assumption log 69). -/
def AtmAct.txReady (p : Port) (fill : Word) (x : AtmAct) : AtmTry AtmAct :=
  let v := atmCmdVc x.atm.cmr
  let desc := x.atm.cerLatch
  let base := 0x6400_0000 ||| (fill &&& 0x00FC_0000) ||| (BitVec.ofNat 32 v <<< 6)
  let failed (x : AtmAct) : AtmAct := x.result (base ||| 0x0100_0000)
  if !x.atm.isOpen v then .done (failed x)
  else .needs p desc.toNat 8 <|
    if !p.reads desc.toNat 8 then .done (failed x)
    else
      match x.freeInfo v with
      | none => (x.txIndicate false v (x.firstInfo v != 0) (p.word desc.toNat) desc).map failed
      | some k => .done ((x.queuePacket p v k desc).result base)

/-- Add_Buffers (R640): the error is a count beyond 65535 directories. A pool number 8 to 31, which R640 only tells software not to give,
is answered with E too and changes nothing (DESIGN CHOICE, assumption log 73). The new directories are linked behind the pool's chain;
A_RQU of the pool returns to 0 (R609). -/
def AtmAct.addBuffers (x : AtmAct) : AtmAct :=
  let cmd := x.atm.cmr
  let count := (cmd.extractLsb' 0 16).toNat
  let n : Fin 8 := Fin.ofNat 8 (cmd.extractLsb' 16 5).toNat
  let base := 0x6800_0000 ||| (cmd &&& 0x001F_FFFF)
  if 7 < (cmd.extractLsb' 16 5).toNat ∨ 65535 < x.remaining n + count then x.result (base ||| 0x0100_0000)
  else if count = 0 then x.result base
  else
    let head := if x.isEmpty n then x.put (poolWord n 1) x.atm.cerLatch
      else x.map fun a => { a with added := a.added.set n (a.added[n] ++ [a.cerLatch]) }
    let grown := head.put (poolWord n 0) (head.word (poolWord n 0) + BitVec.ofNat 32 count)
    ((grown.map fun a => { a with rqu := setBit a.rqu n false }).alert n).result base

/-- The address of an Indirect_Access (R641). -/
def atmIndirectAddress (cmd : Word) : Nat := (cmd &&& 0x00FF_FFFC).toNat

/-- What an Indirect_Access reads (R641): the work RAM, the lookup table but for its write-only entries FFF600H–FFF6FFH
(R619), the register space, and the instruction space, which is system memory at A_INBAR (R603). What lies at any other address
is internal to the block, and the word read is open (`fill`); so is that at a reserved offset of the register space, where no CBERR
arises, and A_GSR read this way is not cleared, since R607 and R620 speak of a read by the VR4120A: R641 states neither (DESIGN CHOICE,
assumption log 75). -/
def AtmAct.indirectRead (p : Port) (fill : Word) (addr : Nat) (x : AtmAct) : Word :=
  if 0x800000 ≤ addr ∧ addr < 0x804000 then x.word ((addr - 0x800000) / 4)
  else if addr = 0xFFF410 ∨ (0xFFF700 ≤ addr ∧ addr < 0xFFF780) then cellGet 0 x.atm.lookup (addr / 4)
  else if 0x80F000 ≤ addr ∧ addr < 0x810000 then
    let r := x.atm.readReg (addr - 0x80F000)
    if r.status = .ok then r.data.getD fill else fill
  else if addr < 0x100000 then p.word (x.atm.inbar.toNat + addr)
  else fill

/-- An Indirect_Access that writes the byte lanes `be` of `v` (R641). One to a reserved offset of the register space is lost, without
CBERR (DESIGN CHOICE, assumption log 75). -/
def AtmAct.indirectWrite (addr : Nat) (be : Lanes) (v : Word) (x : AtmAct) : AtmAct :=
  if 0x800000 ≤ addr ∧ addr < 0x804000 then x.putBits be.mask ((addr - 0x800000) / 4) v
  else if addr = 0xFFF410 ∨ (0xFFF600 ≤ addr ∧ addr < 0xFFF780) then
    { x with table := (addr / 4, merge be.mask (cellGet 0 x.atm.lookup (addr / 4)) v) :: x.table }
  else if 0x80F000 ≤ addr ∧ addr < 0x810000 then
    x.map fun a => (a.writeReg (addr - 0x80F000) (merge be.mask ((a.readReg (addr - 0x80F000)).data.getD 0) v)).dev
  else x

/-- Indirect_Access (R641): A_CER takes the word read; B3..B0 select the bytes written. -/
def AtmAct.indirect (p : Port) (fill : Word) (x : AtmAct) : AtmTry AtmAct :=
  let cmd := x.atm.cmr
  let addr := atmIndirectAddress cmd
  if cmd.getLsbD 28 then
    .needs p (x.atm.inbar.toNat + addr) (if addr < 0x100000 then 4 else 0) <|
      let w := x.indirectRead p fill addr
      .done ((x.map fun a => { a with cer := w }).result cmd)
  else .done ((x.indirectWrite addr (cmd.extractLsb' 24 4) x.atm.cerLatch).result cmd)

/-- Execute the pending command. The result of a command that the spec does not describe is `fill` (N37). -/
def AtmAct.command (p : Port) (fill : Word) (block : Fin 64) (x : AtmAct) : AtmTry AtmAct :=
  let cmd := x.atm.cmr
  if !x.atm.commandReady then .idle
  else if cmd.extractLsb' 29 2 = (0 : BitVec 2) then x.indirect p fill
  else if cmd.extractLsb' 27 4 = (0b1110 : BitVec 4) then .done x.setLinkRate
  else if cmd.extractLsb' 26 5 = (0b10000 : BitVec 5) then .done (x.openChannel fill block)
  else if cmd.extractLsb' 27 4 = (0b1001 : BitVec 4) then .done (x.closeChannel fill)
  else if cmd.extractLsb' 26 5 = (0b11001 : BitVec 5) then x.txReady p fill
  else if cmd.extractLsb' 26 5 = (0b11010 : BitVec 5) then .done x.addBuffers
  else .done (x.result fill)

/-! ### Transmission (R650–R657) -/

/-- Move to a transmit buffer with data, over at most `fuel` entries (R626): not possible where they do not end; the flag tells
whether the reads succeeded. The last buffer ends the list. So does a null link pointer before it, of which R626 does not say whether it
is an error: the packet ends there as a complete one (DESIGN CHOICE, assumption log 73). -/
def AtmCursor.fetch (p : Port) : Nat → AtmCursor → AtmTry (AtmCursor × Bool)
  | 0, _ => .idle
  | fuel + 1, c =>
    let w0 := p.word c.next.toNat
    let w1 := p.word (c.next.toNat + 4)
    if 0 < c.left || c.last then .done (c, true)
    else if !p.holds c.next.toNat 8 then .read c.next.toNat 8
    else if !p.reads c.next.toNat 8 then .done (c, false)
    else if isBuffer w0 then
      AtmCursor.fetch p fuel { addr := w1, left := descSize w0, next := c.next + 8, last := isLast w0 }
    else if w1 = 0 then .done ({ c with last := true }, true)
    else AtmCursor.fetch p fuel { c with next := w1 }

/-- Up to `want` bytes of transmit data, from at most `fuel` buffers. -/
def AtmCursor.gather (p : Port) : Nat → Nat → AtmCursor → AtmTry (List Byte × AtmCursor × Bool)
  | 0, _, _ => .idle
  | fuel + 1, want, c =>
    (c.fetch p atmFuel).bind fun r =>
      let c := r.1
      let k := min c.left want
      let bytes := p.bytes c.addr.toNat k
      let c' := { c with addr := c.addr + BitVec.ofNat 32 k, left := c.left - k }
      let ok := r.2 && p.reads c.addr.toNat k
      .needs p c.addr.toNat k <|
        if k = want ∨ c'.left = 0 ∧ c'.last ∨ ok = false then .done (bytes, c', ok)
        else (AtmCursor.gather p fuel (want - k) c').map fun r => (bytes ++ r.1, r.2)

/-- The bytes of a word, most significant first. -/
def bigEndian (w : Word) : List Byte := [byteOf 3 w, byteOf 2 w, byteOf 1 w, byteOf 0 w]

/-- The 48 bytes of a payload: cut, or filled with zeros. -/
def payload48 (bytes : List Byte) : List Byte := (List.range 48).map fun i => bytes.getD i 0

/-- The LLC header (R657). -/
def llcHeader : List Byte := [0xAA, 0xAA, 0x03, 0x00, 0x00, 0x00, 0x08, 0x00]

/-- One bit of the division by a generator polynomial of degree `w`, its leading term left out. -/
def crcBit {w : Nat} (g crc : BitVec w) (b : Bool) : BitVec w := if crc.msb != b then (crc <<< 1) ^^^ g else crc <<< 1

/-- The first `n` bits of a byte, the most significant first. -/
def crcBits {w : Nat} (g : BitVec w) (n : Nat) (crc : BitVec w) (b : Byte) : BitVec w :=
  (List.range n).foldl (fun c i => crcBit g c (b.getLsbD (7 - i))) crc

/-- The running CRC-32 of an AAL-5 packet after the bytes of one more cell, by the generator of R651. Its start from all ones,
its final complement, the order of the bits and the byte order of the trailer are those of I.363.5, to which R651 refers
(PRESUMED, assumption log 43). -/
def atmCrc32 (crc : Word) (bytes : List Byte) : Word := bytes.foldl (crcBits 0x04C1_1DB7 8) crc

/-- The CRC-10 over the first 46 bytes and 6 bits of a payload, by the generator of R654; it starts from 0 and is not
complemented, as in I.610 (PRESUMED, assumption log 43). -/
def atmCrc10 (payload : List Byte) : BitVec 10 :=
  crcBits 0x233 6 ((payload.take 46).foldl (crcBits 0x233 8) 0) (payload.getD 46 0)

/-- The last ten bits of a payload. -/
def crc10Field (payload : List Byte) : BitVec 10 :=
  ((payload.getD 46 0).extractLsb' 0 2 ++ payload.getD 47 0 : BitVec 10)

/-- A payload with its CRC-10 (R654). -/
def withCrc10 (payload : List Byte) : List Byte :=
  let crc := atmCrc10 payload
  payload.take 46 ++ [(payload.getD 46 0 &&& 0xFC) ||| (crc.extractLsb' 8 2).zeroExtend 8, crc.extractLsb' 0 8]

/-- The last cell of an AAL-5 packet of `total` bytes (R650 f, R651): data, zeros, CPCS-UU, CPI, length, CRC-32. -/
def lastPayload (desc crc : Word) (total : Nat) (data : List Byte) : List Byte :=
  let body := (payload48 data).take 40 ++
    [byteOf 1 desc, byteOf 0 desc, BitVec.ofNat 8 (total / 256), BitVec.ofNat 8 total]
  body ++ bigEndian (~~~(atmCrc32 crc body))

/-- CLP of a cell by CLPM (R625); 10 is unused and sends 0. -/
def atmClp (desc : Word) (isLast : Bool) : Word :=
  if desc.extractLsb' 27 2 = (0b11 : BitVec 2) ∨ (desc.extractLsb' 27 2 = (0b01 : BitVec 2) ∧ isLast = false) then 1 else 0

/-- All the data of the packet at the head of the queue of VC number `v` have been read, or could not be (`ok`): its
information table is free, the next packet starts or the VC becomes idle, and the indication is written (R650 g, h, R655). Not
possible while the mailbox takes no indication. -/
def AtmAct.endPacket (v : Nat) (ok : Bool) (x : AtmAct) : AtmTry AtmAct :=
  let w0 := x.word (vcWord v 0)
  let k := infoIndex (x.firstInfo v)
  let next := x.word (infoWord k 0) &&& 0xFFFF
  let desc := x.atm.infoUsed[k].getD 0
  let x := x.map fun a => { a with infoUsed := a.infoUsed.set k none }
  let x := if next = 0 then (x.put (vcWord v 15) 0).putBits 0x8000_0000 (vcWord v 7) 0
    else (x.putBits 0xFFFF_0000 (vcWord v 15) (next <<< 16)).startPacket v (infoIndex next)
  x.txIndicate ok v (next != 0) w0 desc

/-- The transmit place in the VC table (R653). -/
def AtmAct.txCursor (x : AtmAct) (v : Nat) : AtmCursor :=
  { addr := x.word (vcWord v 4)
    left := ((x.word (vcWord v 2)).extractLsb' 0 16).toNat
    next := x.word (vcWord v 5)
    last := (x.word (vcWord v 1)).getLsbD 31 }

/-- The data of the next cell: an OAM F5 cell takes the first 48 bytes of one buffer (R654); an LLC header stands before the
data of a packet with ENC = 1 (R657). Tx_Ready of R639 is taken as one that encapsulates: R657's ATM-mode Tx_Ready, which does
not, is not described (N37; DESIGN CHOICE, assumption log 69). The forbidden PTI values 110 and 111 are sent like the OAM F5
patterns 100 and 101 (R625; DESIGN CHOICE, assumption log 69). -/
def AtmAct.cellData (p : Port) (v : Nat) (x : AtmAct) : AtmTry (List Byte × AtmCursor × Bool) :=
  let w0 := x.word (vcWord v 0)
  let c := x.txCursor v
  let llc := if w0.getLsbD 29 && w0.getLsbD 17 && (x.word (vcWord v 2)).extractLsb' 16 16 == (0 : Half) then llcHeader else []
  if w0.getLsbD 26 then
    (c.fetch p atmFuel).bind fun r =>
      let n := min 48 r.1.left
      .needs p r.1.addr.toNat n <|
        .done (p.bytes r.1.addr.toNat n, { r.1 with left := 0, last := true }, r.2 && p.reads r.1.addr.toNat n)
  else (c.gather p 49 (48 - llc.length)).map fun r => (llc ++ r.1, r.2)

/-- One cell of the active VC number `v` goes into the transmit SAR FIFO (R650 e, f, R654). An AAL-5 packet ends with the cell in
which data of at most 40 bytes leave room for the trailer: R650 f says fewer than 40, and R651 that at most 47 bytes of padding are sent (DESIGN
CHOICE at 40, assumption log 60). With C10 = 1 every cell carries a CRC-10 in its last ten bits (R625), which in an AAL-5 cell
take the place of data; the CRC-32 is that of the payload before it (DESIGN CHOICE, assumption log 69). A raw cell too takes 48
bytes of data, whose last ten bits its CRC-10 overwrites, where R654 has it appended to 46 bytes and 6 bits (DESIGN CHOICE,
assumption log 69). After a bus error the packet ends with an error indication (DESIGN CHOICE, assumption log 60). The cell goes to
the PHY of word 6 (R653). MBS in word 6 and words 10 to 12, whose use is internal, do not change (R653; DESIGN CHOICE, assumption
log 69). -/
def AtmAct.sendCell (p : Port) (v : Nat) (x : AtmAct) : AtmTry AtmAct :=
  (x.cellData p v).bind fun r =>
    let data := r.1
    let c := r.2.1
    if !r.2.2 then x.endPacket v false
    else
      let w0 := x.word (vcWord v 0)
      let aal5 := w0.getLsbD 17 && !w0.getLsbD 26
      let crc := x.word (vcWord v 3)
      let ended := c.last && c.left == 0
      let isLast := ended && (!aal5 || decide (data.length ≤ 40))
      let total := ((x.word (vcWord v 2)).extractLsb' 16 16).toNat + data.length
      let plain := if aal5 && isLast then lastPayload w0 crc total data else payload48 data
      let payload := if w0.getLsbD 18 then withCrc10 plain else plain
      let header := x.word (infoWord (infoIndex (x.firstInfo v)) 1) ||| (if aal5 && isLast then 2 else 0) ||| atmClp w0 isLast
      let x := ((((x.put (vcWord v 2) ((BitVec.ofNat 32 total <<< 16) ||| BitVec.ofNat 32 c.left)).put (vcWord v 3)
        (atmCrc32 crc plain)).put (vcWord v 4) c.addr).put (vcWord v 5) c.next).putBits 0x8000_0000 (vcWord v 1)
        (if c.last then 0x8000_0000 else 0)
      let phy := (x.word (vcWord v 6)).extractLsb' 0 5
      let x := x.map fun a => a.emit { header := header, payload := payload, phy := phy }
      if isLast then x.endPacket v true else .done x

/-- The next cell of VC number `v` is made, if transmission is enabled, the VC is active and the transmit SAR FIFO has room for it
(R601, R606, R653). -/
def AtmAct.cellOut (p : Port) (v : Nat) (x : AtmAct) : AtmTry AtmAct :=
  if decide (x.atm.txFifo.length < sarFifoCells) && x.atm.gmr.getLsbD 1 && x.atm.isOpen v && (x.word (vcWord v 7)).getLsbD 31 &&
      x.firstInfo v != 0 then x.sendCell p v
  else .idle

/-! ### Reception (R660–R665) -/

/-- The pool that the Rx VC table names (R661). There are pools 0 to 7: a number above 7 in the field of five bits is taken modulo 8
(DESIGN CHOICE, assumption log 73). -/
def AtmAct.rxPool (x : AtmAct) (v : Nat) : Fin 8 := Fin.ofNat 8 ((x.word (vcWord v 0)).extractLsb' 16 5).toNat

/-- Raw cell data (R663). -/
def rawCellData (c : AtmCell) (uinfo : Half) (tsr : Word) (v : Nat) : List Byte :=
  let body := payload48 c.payload
  let ce := atmCrc10 body != crc10Field body
  let last := 0x8000_0000 ||| (BitVec.ofNat 32 v <<< 16) ||| (if ce then 0x8000 else 0)
  let le (w : Word) : List Byte := [byteOf 0 w, byteOf 1 w, byteOf 2 w, byteOf 3 w]
  le c.header ++ [c.hec] ++ body ++ [0, uinfo.extractLsb' 0 8, uinfo.extractLsb' 8 8] ++ le tsr ++ le last

/-- DD of the Rx VC table (R661): a cell was discarded for lack of a free buffer. -/
def AtmAct.setDd (v : Nat) (b : Bool) (x : AtmAct) : AtmAct := x.putBits 0x0800_0000 (vcWord v 0) (if b then 0x0800_0000 else 0)

/-- A raw cell goes to pool `n` (R662); without a free buffer it is discarded (R609) and sets DD, which the next cell that finds
one clears (R661; the clearing DESIGN CHOICE, assumption log 69). -/
def AtmAct.receiveRaw (p : Port) (v : Nat) (n : Fin 8) (c : AtmCell) (x : AtmAct) : AtmTry AtmAct :=
  (x.scatter p n 17 (rawCellData c ((x.word (vcWord v 0)).extractLsb' 0 16) x.atm.tsr v) x.atm.raw[n]).map fun r =>
    match r with
    | none => ((x.underflow n).setDd v true).discard
    | some (cursor, x) =>
      ((x.setDd v false).map fun a => { a with raw := a.raw.set n cursor }).flag (BitVec.twoPow 32 (8 + n.val))

/-- The states of a receive indication (R664). -/
inductive AtmRxError where
  /-- Received normally. -/
  | none
  /-- Free buffer underflow. -/
  | underflow
  /-- Maximum-bytes violation. -/
  | maximum
  /-- CRC-32 error. -/
  | crc
  /-- Length error. -/
  | length
  /-- T1 time-out. -/
  | timeout
deriving DecidableEq, Repr

/-- ERR STATUS (R664). -/
def AtmRxError.code : AtmRxError → Word
  | .none => 0x0 | .underflow => 0x1 | .maximum => 0x3 | .crc => 0x4 | .length => 0x6 | .timeout => 0x7

/-- The block of VC number `v` in the pool of VC tables (R645). -/
def vcBlock (v : Nat) : Fin 64 := Fin.ofNat 64 (v - 1)

/-- The bytes received of the packet on VC number `v` (R661). -/
def AtmAct.rxCount (x : AtmAct) (v : Nat) : Nat := x.atm.rxBytes[vcBlock v]

/-- The T1 time of VC number `v` has passed since the first cell of its packet (R615, R665 5). -/
def AtmAct.timedOut (x : AtmAct) (v : Nat) : Bool :=
  match x.atm.t1List.find? fun e => e.1 == v with
  | none => false
  | some e => decide (x.atm.t1r.toNat ≤ (x.atm.tsr - e.2).toNat)

/-- The receive indication of VC number `v` (R664), into mailbox 0 or 1 by MB of the VC table. -/
def AtmAct.rxIndicate (v : Nat) (e : AtmRxError) (x : AtmAct) : AtmTry AtmAct :=
  let w0 := x.word (vcWord v 0)
  x.indicate (if w0.getLsbD 21 then 1 else 0)
    [(w0 <<< 16) ||| BitVec.ofNat 32 (x.rxCount v / 48),
     x.atm.tsr,
     x.word (vcWord v 6),
     0x8000_0000 ||| (BitVec.ofNat 32 v <<< 16) ||| (if e = .none then 0 else 0x8000) |||
       (if w0.getLsbD 24 then 0x4000 else 0) ||| (if w0.getLsbD 31 then 0x2000 else 0) ||| (e.code <<< 8) |||
       ((w0 >>> 16) &&& 0x1F)]

/-- The packet of VC number `v` is over: BFA = 0, RID as said, and the VC leaves the T1 list. -/
def AtmAct.endRx (v : Nat) (rid : Bool) (x : AtmAct) : AtmAct :=
  (x.putBits 0x5000_0000 (vcWord v 0) (if rid then 0x1000_0000 else 0)).leaveT1 v

/-- A cell of the packet on VC number `v` has come, stored or not: CLP and CI of the VC table tell whether one of its cells had CLP = 1
or showed congestion (R661, R664). -/
def AtmAct.noteCell (v : Nat) (c : AtmCell) (x : AtmAct) : AtmAct :=
  x.put (vcWord v 0) (x.word (vcWord v 0) ||| (if c.header.getLsbD 0 then 0x8000_0000 else 0) |||
    (if c.header.getLsbD 2 then 0x0100_0000 else 0))

/-- Reception of the packet is broken off (R665): the indication, RID until the last cell, and the cell is discarded. PACKET SIZE counts
the cells stored, not this one (R664; DESIGN CHOICE, assumption log 69). -/
def AtmAct.breakOff (v : Nat) (e : AtmRxError) (isLast : Bool) (x : AtmAct) : AtmTry AtmAct :=
  (x.rxIndicate v e).map fun x => (x.endRx v (!isLast)).discard

/-- The first cell of a packet (R660 e): the fields of the packet start anew, and the VC joins the T1 list. `stamp` is the T1
TIME STAMP, whose form is internal. -/
def AtmAct.startRx (v : Nat) (stamp : Half) (x : AtmAct) : AtmAct :=
  let x := (((((x.putBits 0xD900_0000 (vcWord v 0) 0).putBits 0xFFFF_0000 (vcWord v 1) (stamp.zeroExtend 32 <<< 16)).put
    (vcWord v 2) 0).put (vcWord v 3) 0xFFFF_FFFF).put (vcWord v 5) 0).map fun a =>
      { a with rxBytes := a.rxBytes.set (vcBlock v) 0, rxNext := a.rxNext.set (vcBlock v) 0 }
  x.setT1 ((x.atm.t1List.filter fun e => e.1 != v) ++ [(v, x.atm.tsr)])

/-- The receive place of VC number `v` (R661). -/
def AtmAct.rxCursor (x : AtmAct) (v : Nat) : AtmCursor :=
  { addr := x.word (vcWord v 4)
    left := 4 * ((x.word (vcWord v 2)).extractLsb' 0 16).toNat
    next := x.atm.rxNext[vcBlock v] }

/-- CURRENT BUFFER ADDRESS (R661): the start address of the free buffer that is allocated next. Where there is none it is 0, of which R661
says nothing (DESIGN CHOICE, assumption log 75). -/
def AtmAct.nextFree (p : Port) (n : Fin 8) (c : AtmCursor) (x : AtmAct) : AtmTry Word :=
  let dir := (x.word (poolWord n 1)).toNat
  if c.next ≠ 0 && !p.holds c.next.toNat 8 then .read c.next.toNat 8
  else if c.next ≠ 0 && p.bufferAt c.next.toNat then .done (p.word (c.next.toNat + 4))
  else if x.isEmpty n then .done 0
  else .needs p dir 8 (.done (if p.bufferAt dir then p.word (dir + 4) else 0))

/-- The last cell of an AAL-5 packet of `count` bytes agrees with its trailer (R665 3, 4): the CRC-32 is checked before the
length. -/
def atmTrailerError (crc : Word) (count : Nat) (payload : List Byte) : AtmRxError :=
  let length := octetPair payload 42
  if bigEndian (~~~(atmCrc32 crc (payload.take 44))) ≠ payload.drop 44 then .crc
  else if length + 55 < count ∨ count < length + 8 then .length
  else .none

/-- The data of a cell are in memory (R660 f, g): the VC table follows; the last cell sets L of the last descriptor used and
writes the indication with what the check of the trailer has found (`err`). A descriptor that cannot be read any more, or none, is not
written (R681; DESIGN CHOICE, assumption log 78). L of the other descriptors stays as software wrote it, of which R631 says nothing
(DESIGN CHOICE, assumption log 75). Words 7 to 12 of the table, which the firmware uses internally,
never change: what they hold is not stated (R661; DESIGN CHOICE, assumption log 73). -/
def AtmAct.afterCell (p : Port) (v : Nat) (c : AtmCell) (cursor : AtmCursor) (isLast : Bool) (err : AtmRxError) (x : AtmAct) :
    AtmTry AtmAct :=
  (x.nextFree p (x.rxPool v) cursor).bind fun free =>
    let count := x.rxCount v + 48
    let x := ((((x.put (vcWord v 2) ((BitVec.ofNat 32 count <<< 16) ||| BitVec.ofNat 32 (cursor.left / 4))).put (vcWord v 3)
      (atmCrc32 (x.word (vcWord v 3)) (payload48 c.payload))).put (vcWord v 4) cursor.addr).put (vcWord v 5) free).map fun a =>
        { a with rxBytes := a.rxBytes.set (vcBlock v) count, rxNext := a.rxNext.set (vcBlock v) cursor.next }
    let x := x.putBits 0x4000_0000 (vcWord v 0) 0x4000_0000
    let desc := cursor.next.toNat - 8
    if !isLast then .done x
    else .needs p desc 4 <|
      let x := if cursor.next ≠ 0 && p.reads desc 4 then x.store (wordAt desc (p.word desc ||| 0x8000_0000)) else x
      (x.rxIndicate v err).map fun x => x.endRx v false

/-- A free buffer underflow (R665 1): A_RQU, RID and DD; an indication unless the cell is the first of its packet. The cell is
discarded. -/
def AtmAct.rxUnderflow (v : Nat) (isFirst isLast : Bool) (x : AtmAct) : AtmTry AtmAct :=
  let x := (x.underflow (x.rxPool v)).setDd v true
  if isFirst then .done (x.endRx v (!isLast)).discard else x.breakOff v .underflow isLast

/-- The data of a cell put into the buffers of VC number `v`, with more than 48 bytes to spare; none is an underflow (R665 1). The
free area is taken with the directories that the pool can still give (DESIGN CHOICE, assumption log 60). -/
def AtmAct.fitCell (p : Port) (v : Nat) (c : AtmCell) (x : AtmAct) : AtmTry (Option (AtmCursor × AtmAct)) :=
  (x.scatter p (x.rxPool v) 17 (payload48 c.payload) (x.rxCursor v)).bind fun r =>
    match r with
    | none => .done none
    | some (cursor, y) => (y.nextBuffer p (x.rxPool v) atmFuel cursor).map fun next => next.map fun _ => (cursor, y)

/-- What the trailer in a last cell tells (R665 3, 4); nothing in any other cell. -/
def AtmAct.trailer (v : Nat) (c : AtmCell) (isLast : Bool) (x : AtmAct) : AtmRxError :=
  if isLast then atmTrailerError (x.word (vcWord v 3)) (x.rxCount v + 48) (payload48 c.payload) else .none

/-- The first cell of a packet is stored (R660 e, f). Word 6 of the table takes the address of the first buffer descriptor: R661 says start
address of the first buffer, and R664 reads the same words of the indication as the descriptor's address (DEDUCED, assumption log 73). -/
def AtmAct.firstCell (p : Port) (v : Nat) (c : AtmCell) (isLast : Bool) (x : AtmAct) : AtmTry AtmAct :=
  (x.fitCell p v c).bind fun r =>
    match r with
    | none => x.rxUnderflow v true isLast
    | some (cursor, y) =>
      (y.put (vcWord v 6) (x.word (poolWord (x.rxPool v) 1))).afterCell p v c cursor isLast (x.trailer v c isLast)

/-- A further cell of a packet (R665), by the priorities of Table 4-5: an underflow, a violation of the maximum, an error that the
trailer of a last cell shows, a time-out. -/
def AtmAct.laterCell (p : Port) (v : Nat) (c : AtmCell) (isLast : Bool) (x : AtmAct) : AtmTry AtmAct :=
  (x.fitCell p v c).bind fun r =>
    match r with
    | none => x.rxUnderflow v false isLast
    | some (cursor, y) =>
      let err := x.trailer v c isLast
      if ((x.word (vcWord v 1)).extractLsb' 0 16).toNat ≤ x.rxCount v then x.breakOff v .maximum isLast
      else if x.timedOut v && err = .none then x.breakOff v .timeout isLast
      else y.afterCell p v c cursor isLast err

/-- An AAL-5 cell of VC number `v` (R660, R665): cells of a broken packet are discarded, the last one with RID reset. -/
def AtmAct.receiveAal5 (p : Port) (v : Nat) (c : AtmCell) (stamp : Half) (x : AtmAct) : AtmTry AtmAct :=
  let w0 := x.word (vcWord v 0)
  let isLast := c.header.getLsbD 1
  if w0.getLsbD 28 then .done (if isLast then (x.endRx v false).discard else x.discard)
  else if w0.getLsbD 30 then (x.noteCell v c).laterCell p v c isLast
  else ((x.startRx v stamp).noteCell v c).firstCell p v c isLast

/-- A cell of the registered VC number `v` (R662, R664): by PTI an OAM cell, else by A/R raw or AAL-5. An OAM cell is discarded with OD
= 0 on a VC with A/R = 0 too, where R662 also says that its cells are raw cells (DESIGN CHOICE, assumption log 69). The cell counts in
A_RCC before it is known whether it will be discarded: a cell discarded inside the block counts there and in A_RIDC (R614; DESIGN
CHOICE, assumption log 73). -/
def AtmAct.receive (p : Port) (v : Nat) (c : AtmCell) (stamp : Half) (x : AtmAct) : AtmTry AtmAct :=
  let w0 := x.word (vcWord v 0)
  let x := x.map fun a => { a with rcc := a.rcc + 1 }
  if c.header.getLsbD 3 then (if w0.getLsbD 23 then x.receiveRaw p v 0 c else .done x.discard)
  else if !w0.getLsbD 22 then x.receiveRaw p v (x.rxPool v) c
  else x.receiveAal5 p v c stamp

/-- The firmware looks a received cell up (R660 e): an unregistered VPI/VCI is counted, and so is one that is registered under a VC
number that is not open, of which the spec does not speak (R614, R660; DESIGN CHOICE, assumption log 69). -/
def AtmAct.lookUp (p : Port) (c : AtmCell) (stamp : Half) (x : AtmAct) : AtmTry AtmAct :=
  match (Config.atmLookup x.atm.lookup (c.header.extractLsb' 4 24)).filter fun v => x.atm.isOpen v.toNat with
  | none => .done (x.map fun a => { a with ruec := a.ruec + 1 })
  | some v => x.receive p v.toNat c stamp

/-- The firmware takes the oldest cell of the receive SAR FIFO (R601, R660), if reception is enabled (R606). The time of reception that
the time stamps tell is A_TSR at this moment (R663, R664; DESIGN CHOICE, assumption log 75). -/
def AtmAct.cellIn (p : Port) (stamp : Half) (x : AtmAct) : AtmTry AtmAct :=
  match x.atm.rxFifo with
  | [] => .idle
  | c :: rest => if x.atm.gmr.getLsbD 0 then (x.map fun a => { a with rxFifo := rest }).lookUp p c stamp else .idle

/-- The T1 time of VC number `v` has passed (R665 5). -/
def AtmAct.timeout (v : Nat) (x : AtmAct) : AtmTry AtmAct :=
  if x.timedOut v then (x.rxIndicate v .timeout).map fun x => x.endRx v true else .idle

/-! ### The agent (R681) -/

/-- The bits of A_GSR that the firmware sets on its own account (R607, N37): SQO, FER, and PI while UMINT_B is low (R620). -/
def atmStatusBits (umint : Bool) : Word := if umint then 0x80A0_0000 else 0x00A0_0000

/-- One action of the firmware. The transfers of R165 are `Atm.event`'s. -/
def AtmAct.event (p : Port) (umint : Bool) (e : AtmEvent) (x : AtmAct) : AtmTry AtmAct :=
  match e with
  | .fetch _ _ => .idle
  | .transfer _ => .idle
  | .command fill block => x.command p fill block
  | .cellOut vc => x.cellOut p vc.toNat
  | .depart _ _ => .idle
  | .arrive _ => .idle
  | .cellIn stamp => x.cellIn p stamp
  | .timeout vc => x.timeout vc.toNat
  | .discard => .done x.discard
  | .status bits => .done (x.flag (bits &&& atmStatusBits umint))

/-- The words of `ws`, latest first, put into a sparse map. -/
def putWords (m : List (Nat × Word)) (ws : List (Nat × Word)) : List (Nat × Word) :=
  ws.foldr (fun w m => cellSet 0 m w.1 w.2) m

/-- An action has been decided on: the block keeps its writes to system memory, to be made one transfer after the other. -/
def AtmAct.settle (x : AtmAct) (a : Atm) : Atm :=
  Atm.publish { x.atm with
    workRam := putWords a.workRam x.work
    lookup := putWords a.lookup x.table
    stores := x.stores.filter fun t => !t.isEmpty
    gsrAfter := x.flags
    mwaAfter := x.mwa
    ahead := [] }

/-- The firmware makes the next write, up to `words` words of one transfer (R165), and sets BER if it fails (R607). The action goes on as
if it had been made, and no indication tells the error (DESIGN CHOICE, assumption log 78). -/
def Atm.transfer (words : Nat) (p : Port) (a : Atm) : Atm × List Host.Cell :=
  match a.stores with
  | [] => (a, [])
  | t :: rest =>
    let n := burstLength words words (BitVec.ofNat 32 (t.headD (0, 0)).1) t.length t.length
    let now := t.take n
    ((Atm.publish { a with stores := if t.length ≤ n then rest else t.drop n :: rest }).checkBus (p.writes now), now)

/-- Data of system memory that the firmware has read for its next action: all that an action sees of system memory (R165). -/
def Atm.aheadPort (a : Atm) : Port where
  byte i := (a.ahead.lookup i).join
  writable _ := false
  ready i := (a.ahead.lookup i).isSome

/-- The firmware reads `count` bytes from `addr` on for its next action, in one transfer (R165). -/
def Atm.readFor (addr count : Nat) (a : Atm) : DmaStep Atm :=
  { addr := addr
    count := count
    next := fun p =>
      ({ a with ahead := ((List.range count).map fun i => (addr + i, p.byte (addr + i))) ++ a.ahead }.checkBus
        (p.reads addr count), []) }

/-- The RISC core fetches instructions from system memory at A_INBAR (R603, R612); the firmware runs once the first ones have come. -/
def Atm.fetch (offset : BitVec 20) (words : Nat) (a : Atm) : DmaStep Atm :=
  let start := a.inbar + offset.zeroExtend 32
  .reading start (4 * words) fun p =>
    let ok := p.reads start.toNat (4 * words)
    { a with loaded := a.loaded || (offset == 0 && words != 0 && ok) }.checkBus ok

/-- Work on an action: read what it lacks, or decide on it. -/
def Atm.attempt (umint : Bool) (e : AtmEvent) (a : Atm) : DmaStep Atm :=
  match AtmAct.event a.aheadPort umint e { atm := a } with
  | .done x => .pure (x.settle a)
  | .read addr count => a.readFor addr count
  | .idle => .pure a

/-- One action of the agent. The UTOPIA interface acts while the block does (`runs`). The firmware acts while the RISC core runs and the
IBUS is granted (R681), and but for the fetch of instructions once they have been fetched. An action of its that reaches memory takes
several accesses, between which the core runs: its reads come before it one by one, its writes after it, and the next action waits for
them. -/
def Atm.event (umint runs granted : Bool) (e : AtmEvent) (a : Atm) : DmaStep Atm :=
  let firmware (d : DmaStep Atm) := DmaStep.guard (a.active granted) a d
  match e with
  | .depart phy hec => .guard runs a (.pure (a.depart phy hec))
  | .arrive c => .guard runs a (.pure (a.arrive c))
  | .fetch offset words => firmware (a.fetch offset words)
  | .transfer words => firmware (.guard (!a.stores.isEmpty) a (.storing fun p => a.transfer words p))
  | e => firmware (.guard (a.loaded && a.stores.isEmpty) a (a.attempt umint e))

end Sys2Proof.Machine
end

