-- ==== Sys2Proof/Machine/EthMac.lean ====
section
/-! DEFINITION. What an Ethernet controller block does on its own (spec/52_platform_ethernet.md R750–R771): address filtering,
statistics, the transmit and receive DMA, and the actions of the agent "Ethernet MAC/DMA n" of R781. -/
namespace Sys2Proof.Machine

/-! ### Frames -/

/-- The destination address. -/
def frameDest (f : List Byte) : List Byte := f.take 6

/-- A broadcast frame: all ones (R768). -/
def isBroadcast (f : List Byte) : Bool := frameDest f == List.replicate 6 0xFF

/-- A multicast frame: the low bit of the first octet is 1, as in IEEE 802.3 (PRESUMED); the broadcast address is not counted
as one (DESIGN CHOICE, assumption log 57). -/
def isMulticast (f : List Byte) : Bool := (f.getD 0 0).getLsbD 0 && !isBroadcast f

/-- A control frame: type 8808H, as in IEEE 802.3 (PRESUMED, assumption log 57). -/
def isControl (f : List Byte) : Bool := octetPair f 12 == 0x8808

/-- A pause control frame: opcode 0001H, as in IEEE 802.3 (PRESUMED, assumption log 57). -/
def isPause (f : List Byte) : Bool := isControl f && octetPair f 14 == 0x0001

/-- A VLAN frame: the two octets behind the source address equal En_VLTP (R716), the first of them VLTP bits 15:8 (DESIGN CHOICE,
assumption log 71). -/
def Eth.isVlan (e : Eth) (f : List Byte) : Bool := octetPair f 12 == (e.vltp.extractLsb' 0 16).toNat

/-- The station address in the order of the wire (R714). -/
def Eth.station (e : Eth) : List Byte :=
  let low := [byteOf 0 e.lsa1, byteOf 1 e.lsa1, byteOf 2 e.lsa1, byteOf 3 e.lsa1, byteOf 0 e.lsa2, byteOf 1 e.lsa2]
  if Config.stationHighFirst then low.reverse else low

/-- The hash table entry of a destination address (R769): HT(63:32) is En_HT1. -/
def Eth.hashHit (e : Eth) (dest : List Byte) : Bool :=
  let i := (Config.ethHash dest).toNat
  if i < 32 then e.ht2.getLsbD i else e.ht1.getLsbD (i - 32)

/-- Address filtering (R768): unicast, multicast, broadcast, promiscuous. -/
def Eth.accepts (e : Eth) (f : List Byte) : Bool :=
  frameDest f == e.station ||
  (isMulticast f && (e.afr.getLsbD 2 || (e.afr.getLsbD 1 && e.hashHit (frameDest f)))) ||
  (isBroadcast f && e.afr.getLsbD 0) || e.afr.getLsbD 3

/-- MAXF (R713). -/
def Eth.maxFrame (e : Eth) : Nat := (e.lmax.extractLsb' 0 16).toNat

/-- A frame of `n` bytes is too long: HUGEN = 0 and more than MAXF (R708, R713). -/
def Eth.tooLong (e : Eth) (n : Nat) : Bool := !e.macc1.getLsbD 0 && decide (e.maxFrame < n)

/-- FLCHT = 1 and the length field of a received frame does not match its data (R708): the bytes between the field and the
FCS, where data shorter than the minimum are padded. The minimum is 64 bytes for a VLAN frame too, so that a short one that was padded
to 68 has a length error: of it R708 says nothing (DESIGN CHOICE, assumption log 74). A value above 1500 is a type and no length, as in
IEEE 802.3 (PRESUMED, assumption log 57). -/
def Eth.lengthError (e : Eth) (f : List Byte) : Bool :=
  let tag := if e.isVlan f then 4 else 0
  let field := octetPair f (12 + tag)
  e.macc1.getLsbD 6 && decide (field ≤ 1500) && decide (f.length ≠ max 64 (field + tag + 18))

/-- FTYP (R752). Of several codes that apply a frame gets the first of pause, control, VLAN, broadcast, multicast, unicast: the rule gives
no order (DESIGN CHOICE, assumption log 76). -/
def Eth.frameType (e : Eth) (f : List Byte) : BitVec 3 :=
  if isPause f then 0b100
  else if isControl f then 0b101
  else if e.isVlan f then 0b011
  else if isBroadcast f then 0b000
  else if isMulticast f then 0b001
  else 0b010

/-- The four octets of the frame check sequence behind `body` (R761). -/
def fcsOctets (body : List Byte) : List Byte :=
  let w := Config.ethFcs body
  [byteOf 0 w, byteOf 1 w, byteOf 2 w, byteOf 3 w]

/-- A frame whose last four octets are not the frame check sequence of the others: a CRC error (R752, R765). -/
def fcsError (f : List Byte) : Bool := f.drop (f.length - 4) != fcsOctets (f.take (f.length - 4))

/-- The status bits of a received frame `f` that is not overrun (R752); RXOK if there is no error but a dribble nibble, since R752,
which sets both bits on a dribble nibble, does not speak of further errors (DESIGN CHOICE, assumption log 80); `cut` if
its reception was ended at MAXF, which clears RXOK and does not set RFLE: that bit tells a length field that does not match, and R752 does
not say that it tells the length of a frame too (DESIGN CHOICE, assumption log 76). -/
def Eth.rxStatus (e : Eth) (f : List Byte) (cut : Bool) (w : EthWireStatus) : Word :=
  let bad := w.rxError || w.falseCarrier || fcsError f || w.alignment || e.lengthError f || cut
  ((e.frameType f).zeroExtend 32 <<< 25) ||| (if w.rxError then 0x0020_0000 else 0) |||
  (if w.falseCarrier then 0x0010_0000 else 0) ||| (if fcsError f then 0x0008_0000 else 0) |||
  (if w.dribble then 0x0004_0000 else 0) ||| (if e.lengthError f then 0x0002_0000 else 0) |||
  (if bad then 0 else 0x0001_0000)

/-! ### Statistics (R706, R727) -/

/-- A count of `n` if `c`. -/
def countIf (c : Bool) (i : Fin 48) (n : Nat := 1) : List (Fin 48 × Word) := if c then [(i, BitVec.ofNat 32 n)] else []

/-- What a received frame counts (R706): a short or a long frame with a valid FCS in En_RUND or En_ROVR, one with an invalid FCS or an
alignment error in En_RFRG or En_RJBR. The valid packets whose bytes En_RVBT counts are those without an FCS, alignment or code error:
which are valid is not stated (DESIGN CHOICE, assumption log 74). -/
def Eth.rxCounts (e : Eth) (f : List Byte) (w : EthWireStatus) : List (Fin 48 × Word) :=
  let n := f.length
  let bad := fcsError f || w.alignment
  countIf true 0 n ++ countIf true 1 ++ countIf (fcsError f) 2 ++ countIf (isMulticast f) 3 ++ countIf (isBroadcast f) 4 ++
  countIf (isControl f) 5 ++ countIf (isPause f) 6 ++ countIf (isControl f && !isPause f) 7 ++ countIf w.alignment 8 ++
  countIf (e.lengthError f) 9 ++ countIf w.rxError 10 ++ countIf w.falseCarrier 11 ++
  countIf (decide (n < 64) && !fcsError f) 12 ++ countIf (decide (1518 < n) && !fcsError f) 13 ++
  countIf (decide (n < 64) && bad) 14 ++ countIf (decide (1518 < n) && bad) 15 ++
  countIf (n == 64) 16 ++ countIf (decide (64 < n ∧ n < 128)) 17 ++ countIf (decide (128 ≤ n ∧ n < 256)) 18 ++
  countIf (decide (256 ≤ n ∧ n < 512)) 19 ++ countIf (decide (512 ≤ n ∧ n < 1024)) 20 ++
  countIf (decide (1024 ≤ n ∧ n ≤ e.maxFrame)) 21 ++ countIf (!bad && !w.rxError) 22 n

/-- What a transmission counts (R706); `excess` if there were more collisions than RETRY allows. An aborted one is no packet transmitted:
it counts neither in En_TPKT and En_TBYT nor by its destination, its kind or its FCS, of which R706 does not speak (DESIGN CHOICE,
assumption log 74). -/
def ethTxCounts (f : List Byte) (w : EthSendStatus) (excess aborted : Bool) : List (Fin 48 × Word) :=
  let ok := !aborted
  countIf ok 32 f.length ++ countIf ok 33 ++ countIf (ok && fcsError f) 34 ++ countIf (ok && isMulticast f) 35 ++
  countIf (ok && isBroadcast f) 36 ++ countIf (ok && !(f.getD 0 0).getLsbD 0) 37 ++ countIf (ok && isPause f) 38 ++
  countIf w.deferred 39 ++ countIf w.excessDeferral 40 ++ countIf (ok && w.collisions == 1) 41 ++
  countIf (ok && decide (1 < w.collisions.toNat)) 42 ++ countIf w.lateCollision 43 ++ countIf excess 44 ++
  countIf (w.collisions != 0) 45 w.collisions.toNat ++ countIf w.carrierLost 46 ++ countIf w.macError 47

/-- A statistics counter advances (R727): modulo 2^32, a wrap sets its carry bit, and CARRY if that bit is unmasked
(R746). -/
def Eth.count (i : Fin 48) (n : Word) (e : Eth) : Eth :=
  let c := e.counters[i]
  let e1 := { e with counters := e.counters.set i (c + n) }
  if c.toNat + n.toNat < 2 ^ 32 then e1
  else
    let m := ethCarry i
    { e1 with
      car1 := e1.car1 ||| m.1
      car2 := e1.car2 ||| m.2
      isr := if (m.1 &&& e1.cam1) != 0 || (m.2 &&& e1.cam2) != 0 then e1.isr ||| 1 else e1.isr }

/-- The counters take the oldest count that is due. -/
def Eth.takeCount (e : Eth) : Eth :=
  match e.counts with
  | [] => e
  | c :: rest => { e with counts := rest }.count c.1 c.2

/-! ### Common to both directions -/

/-- Set bits of En_ISR (R736). -/
def Eth.flag (e : Eth) (bits : Word) : Eth := { e with isr := e.isr ||| bits }

/-- BUSERR, if the access failed (R736). -/
def Eth.checkBus (e : Eth) (ok : Bool) : Eth := if ok then e else e.flag 0x8000_0000

/-- The longest burst in words: DTBS or DRBS in bits 18:16 (R728, R731); the reserved value 111 counts on (U50; DESIGN CHOICE,
assumption log 57). -/
def ethBurst (cr : Word) : Nat := 2 ^ (cr.extractLsb' 16 3).toNat

/-- The bytes that each of the two FIFOs holds (R729, R732). -/
def ethFifoSize : Nat := 256

/-- A data buffer as its descriptor `w0`, `w1` at `desc` gives it (R751, R752). -/
def ethBuffer (desc w0 w1 : Word) : DmaBuffer := { desc := desc, word := w0, addr := w1, left := descSize w0 }

/-- Data have been moved for the buffer, or its descriptor has been written. -/
def DmaBuffer.begun (b : DmaBuffer) : Bool := b.marked || b.passed || decide (b.left < descSize b.word)

/-- The OWN bit is due: data transfer has begun, or there are no data (R751, R752). -/
def DmaBuffer.ownDue (b : DmaBuffer) : Bool := !b.marked && (b.left == 0 || decide (b.left < descSize b.word))

/-! ### Transmission (R761–R763) -/

/-- The transmitter is on: TXE = 1, SRT = 0, TFRST = MCRST = 0 (R781). -/
def Eth.txOn (e : Eth) : Bool :=
  e.txcr.getLsbD 31 && !e.ccr.getLsbD 0 && !e.macc2.getLsbD 8 && !e.macc2.getLsbD 10

/-- The bytes in the transmit FIFO: the first 64 of the frame stay in it until the collision window has passed (R761). -/
def Eth.txFill (e : Eth) : Nat := if e.txOut < 64 then e.txData.length else e.txData.length - e.txOut

/-- The transmit drain threshold TX_DRTH in bytes (R729). -/
def Eth.txDrainLevel (e : Eth) : Nat := 4 * (e.txfcr.extractLsb' 10 6).toNat

/-- The transmit fill threshold TX_FLTH in bytes (R729). -/
def Eth.txFillLevel (e : Eth) : Nat := 4 * (e.txfcr.extractLsb' 2 6).toNat

/-- The DMA has delivered the end of the frame: it has read the last buffer to its end (R729, R762). -/
def Eth.txDelivered (e : Eth) : Bool :=
  match e.txBuf with
  | none => false
  | some b => isLast b.word && b.left == 0

/-- The DMA is done with the frame: it has delivered its end and set OWN of the last descriptor (R762). -/
def Eth.txComplete (e : Eth) : Bool :=
  match e.txBuf with
  | none => false
  | some b => isLast b.word && b.marked && b.left == 0

/-- The MAC sends: the FIFO held more than the drain threshold, or the end of the frame is in it (R729, R761). -/
def Eth.txSending (e : Eth) : Bool := decide (0 < e.txOut) || e.txDelivered || decide (e.txDrainLevel < e.txFill)

/-- The bits of En_ISR of an abort with the status `status` (R736, R763): TABR, and UR for an underrun. -/
def ethAbortFlags (status : Word) : Word := 0x0800 ||| (if status.getLsbD 27 then 0x1000 else 0)

/-- The transmission has been aborted: the transmitter waits for En_TXDPR (R763). -/
def Eth.txAborted (status pointer : Word) (e : Eth) : Eth :=
  ({ e with txHalted := true, txdpr := pointer &&& 0xFFFF_FFFC }.dropTx true).flag (ethAbortFlags status)

/-- The entry fetched at En_TXDPR: a descriptor is taken, a link followed; at Null the transmitter halts with TBDR (R750, R762).
After a bus error it does not go on (DESIGN CHOICE, assumption log 57). On the way to the last descriptor of an aborted frame both ends
leave the status unwritten (DESIGN CHOICE, assumption log 57). Nothing is written back to a link-pointer entry (R750, N40; DESIGN CHOICE,
assumption log 76). -/
def Eth.txEntry (p : Port) (e : Eth) : Eth :=
  let w0 := p.word e.txdpr.toNat
  let w1 := p.word (e.txdpr.toNat + 4)
  let stop (e : Eth) : Eth := match e.txAbort with | none => e | some (status, pointer) => e.txAborted status pointer
  if !p.reads e.txdpr.toNat 8 then stop (e.checkBus false)
  else if isBuffer w0 then { e with txBuf := some (ethBuffer e.txdpr w0 w1) }
  else if w1 = 0 then stop { e.flag 0x4000 with txHalted := true }
  else { e with txdpr := w1 &&& 0xFFFF_FFFC }

/-- The controller fetches the entry at En_TXDPR. -/
def Eth.txFetch (e : Eth) : DmaStep Eth := .reading e.txdpr 8 fun p => e.txEntry p

/-- The controller reads a burst of the data buffer into the FIFO (R762 iv, viii): while the fill level is below the threshold,
and no more than the FIFO has room for (R729). -/
def Eth.txRead (words : Nat) (b : DmaBuffer) (e : Eth) : DmaStep Eth :=
  let n := burstLength words (ethBurst e.txcr) b.addr b.left (ethFifoSize - e.txFill)
  .guard (decide (e.txFill < e.txFillLevel)) e <| .reading b.addr n fun p =>
    let ok := p.reads b.addr.toNat n
    { e with
      txBuf := some (b.skip n)
      txData := e.txData ++ p.bytes b.addr.toNat n
      txReadError := e.txReadError || !ok }.checkBus ok

/-- The controller sets OWN of the descriptor (R751). -/
def Eth.txOwn (p : Port) (b : DmaBuffer) (e : Eth) : Eth × List Host.Cell :=
  let word := wordAt b.desc.toNat (b.word ||| 0x2000_0000)
  ({ e with txBuf := some { b with marked := true } }.checkBus (p.writes word), word)

/-- The pointer advances behind a buffer that is not the frame's last (R762 vi). -/
def Eth.txAdvance (b : DmaBuffer) (e : Eth) : Eth :=
  { e with txdpr := e.txdpr + 8, txBuf := some { b with passed := true } }

/-- Transmit descriptor status bits 28:23, 18 and 16 (R751). -/
def ethTxStatusBits : Word := 0x1F85_0000

/-- Transmit status bits that mean an abort: LCOL, ECOL, EDFR, TUDR, TGNT (R736 TABR). -/
def ethTxAbortBits : Word := 0x0B84_0000

/-- A transmit descriptor with its status, and OWN (R751). -/
def ethTxDoneWord (b : DmaBuffer) (status : Word) : List Host.Cell :=
  wordAt b.desc.toNat (merge ethTxStatusBits (b.word ||| 0x2000_0000) status)

/-- The status of an aborted frame goes to its last descriptor (R763). -/
def Eth.txWriteAbort (p : Port) (b : DmaBuffer) (status pointer : Word) (e : Eth) : Eth × List Host.Cell :=
  ((e.txAborted status pointer).checkBus (p.writes (ethTxDoneWord b status)), ethTxDoneWord b status)

/-- One access of the transmit DMA (R762): OWN, the next burst, or, behind a buffer that is not the frame's last, the pointer's
advance (vi) and then the next entry (vii). Once the last buffer has been read it waits for the frame to be sent. After an abort it
goes on, without data, to the frame's last descriptor, and sets OWN of every descriptor that it has taken, whether data of it have been
read or not (R751): that no new descriptor is fetched (R763) is read as none behind the last one (DESIGN CHOICE, assumption log 57). -/
def Eth.txDma (words : Nat) (e : Eth) : DmaStep Eth :=
  match e.txBuf, e.txAbort with
  | none, _ => e.txFetch
  | some b, some (status, pointer) =>
    if isLast b.word then .storing fun p => e.txWriteAbort p b status pointer
    else if b.passed then e.txFetch
    else if !b.marked then .storing fun p => e.txOwn p b
    else .pure (e.txAdvance b)
  | some b, none =>
    if b.passed then e.txFetch
    else if b.ownDue then .storing fun p => e.txOwn p b
    else if 0 < b.left then e.txRead words b
    else if isLast b.word then .pure e
    else .pure (e.txAdvance b)

/-- The MAC takes up to `n` bytes of the frame from the FIFO (R761), but with HUGEN = 0 none behind the first MAXF (R713). An underrun
(R729, R763): the FIFO runs below the drain threshold, or empty, before the DMA has delivered the end of the frame; the MAC then takes
no more. -/
def Eth.txDrain (n : Nat) (e : Eth) : Eth :=
  let limit := if e.macc1.getLsbD 0 then e.txData.length else min e.txData.length e.maxFrame
  let out := max e.txOut (min (e.txOut + n) limit)
  if e.txSending && !e.txUnderran && e.txAbort.isNone then
    { e with
      txOut := out
      txUnderran := !e.txDelivered && decide (e.txData.length - out < max 1 e.txDrainLevel) }
  else e

/-- The length to which a frame is padded before its FCS (R708, R709, R716): 60 bytes, as a VLAN frame 64; 0 for none. -/
def Eth.padLength (e : Eth) (data : List Byte) : Nat :=
  if e.macc2.getLsbD 4 || (e.macc2.getLsbD 5 && e.isVlan data) then 64 else if e.macc1.getLsbD 2 then 60 else 0

/-- The frame as put on the wire, without preamble and SFD (R761): the data, the pad, and the FCS if CRCEN = 1 or the frame was
padded. -/
def Eth.wireFrame (e : Eth) (data : List Byte) : List Byte :=
  let pad := (List.range (e.padLength data - data.length)).map Config.ethPad
  let body := data ++ pad
  if e.macc1.getLsbD 3 || !pad.isEmpty then body ++ fcsOctets body else body

/-- More collisions than RETRY allows (R712). -/
def Eth.excessCollisions (e : Eth) (w : EthSendStatus) : Bool := decide ((e.clrt.extractLsb' 0 4).toNat < w.collisions.toNat)

/-- The frame as far as it has been read, with its pad and FCS if it has been read to its end. -/
def Eth.txFrame (e : Eth) : List Byte := if e.txComplete then e.wireFrame e.txData else e.txData

/-- The MAC has sent all that it may of a frame that is longer than MAXF (R713); pad and FCS count in the length (DESIGN CHOICE,
assumption log 71). -/
def Eth.txTooLong (e : Eth) : Bool := e.tooLong e.txFrame.length && e.txOut == min e.txData.length e.maxFrame

/-- The errors of a transmission in the positions of R751: DBRE, TUDR, CSE, LCOL, ECOL, EDFR, TGNT. -/
def Eth.txErrors (e : Eth) (w : EthSendStatus) : Word :=
  (if e.txReadError then 0x1000_0000 else 0) ||| (if e.txUnderran then 0x0800_0000 else 0) |||
  (if w.carrierLost then 0x0400_0000 else 0) ||| (if w.lateCollision then 0x0200_0000 else 0) |||
  (if e.excessCollisions w then 0x0100_0000 else 0) ||| (if w.excessDeferral then 0x0080_0000 else 0) |||
  (if e.txTooLong then 0x0004_0000 else 0)

/-- The bits of En_ISR that a frame sets by its contents: TFLE and TCFRI (R736). The length field that TFLE looks at is octets 12 and 13
of the frame, in a VLAN frame too, where they are the TPID: R736 does not say which octets it is there (DESIGN CHOICE, assumption log
74). -/
def Eth.txFrameFlags (e : Eth) (frame : List Byte) (aborted : Bool) : Word :=
  (if e.macc1.getLsbD 6 && decide (1500 < octetPair frame 12) then 0x2000 else 0) |||
  (if isControl frame && !aborted then 0x0400 else 0)

/-- The transmission ends: it is aborted, or the whole frame has left the FIFO. -/
def Eth.txEnds (e : Eth) (w : EthSendStatus) : Bool :=
  e.txSending && e.txAbort.isNone &&
    ((e.txErrors w &&& ethTxAbortBits) != 0 || (e.txComplete && e.txOut == e.txData.length))

/-- The statistics count the transmission, and TFLE and TCFRI are set (R727, R736). -/
def Eth.txCount (w : EthSendStatus) (aborted : Bool) (e : Eth) : Eth :=
  { e with counts := e.counts ++ ethTxCounts e.txFrame w (e.excessCollisions w) aborted }.flag
    (e.txFrameFlags e.txFrame aborted)

/-- The frame has been sent (R762 ix, x): its status goes to its last descriptor, the pointer moves on, and XMTDN is set. -/
def Eth.txSent (p : Port) (b : DmaBuffer) (status : Word) (e : Eth) : Eth × List Host.Cell :=
  ((({ e with txdpr := e.txdpr + 8, sent := e.txFrame :: e.sent }.dropTx true).flag 0x8000).checkBus
    (p.writes (ethTxDoneWord b status)), ethTxDoneWord b status)

/-- The transmission ends (R751, R762 ix–x, R763): the frame has been sent; or it has been aborted, and its status goes to its last
descriptor, which the DMA may have still to reach. Where a Null link pointer has already stopped the DMA before that descriptor, the abort
is told in En_ISR at once (R763, R736) and the status stays unwritten (DESIGN CHOICE, assumption log 57). A frame that was sent has TOK
beside DBRE or CSE too: whether these two leave the end a normal one is not stated (R751; DESIGN CHOICE, assumption log 76). -/
def Eth.txDone (w : EthSendStatus) (e : Eth) : DmaStep Eth :=
  let status := e.txErrors w
  let aborted := (status &&& ethTxAbortBits) != 0
  match e.txBuf with
  | none => .pure e
  | some b =>
    if !e.txEnds w then .pure e
    else if !aborted then .storing fun p => (e.txCount w false).txSent p b (status ||| 0x0001_0000)
    else if isLast b.word then .storing fun p => (e.txCount w true).txWriteAbort p b status w.pointer
    else if e.txHalted then .pure ((e.txCount w true).txAborted status w.pointer)
    else .pure { e.txCount w true with txAbort := some (status, w.pointer) }

/-! ### Reception (R765, R766) -/

/-- The receiver is on: RXE = SRXEN = 1, SRT = 0, RFRST = MCRST = 0 (R781). -/
def Eth.rxOn (e : Eth) : Bool :=
  e.rxcr.getLsbD 31 && e.macc1.getLsbD 9 && !e.ccr.getLsbD 0 && !e.macc2.getLsbD 9 && !e.macc2.getLsbD 10

/-- The remaining number of receive descriptors, En_RXPDR.RNOD (R734). -/
def Eth.rnod (e : Eth) : Nat := (e.rxpdr.extractLsb' 0 16).toNat

/-- The alert level, En_RXPDR.AL (R734). -/
def Eth.alert (e : Eth) : Nat := (e.rxpdr.extractLsb' 28 3).toNat

/-- The receive drain threshold RX_DRTH in bytes (R732). -/
def Eth.rxDrainLevel (e : Eth) : Nat := 4 * (e.rxfcr.extractLsb' 2 6).toNat

/-- The bytes in the receive FIFO. -/
def Eth.rxFill (e : Eth) : Nat := (e.rxFifo.map fun f => f.fifo.length).sum

/-- The MAC is between two frames: the last one in the FIFO has arrived whole. -/
def Eth.rxIdle (e : Eth) : Bool := e.rxFifo.all fun f => f.wire.isEmpty

/-- A frame begins to arrive (R765, R768). It is passed up if its destination is accepted, it has 64 bytes or more, and it is no
control frame or PARF = 1; any other leaves no trace but in the statistics, which count every frame (R706; those of other
destinations too: DESIGN CHOICE, assumption log 57). Such a frame never takes room in the FIFO: R765 does not say when the room of a
frame that is discarded there becomes free (DESIGN CHOICE, assumption log 80). With HUGEN = 0 its reception ends after MAXF bytes: the
last four octets received are then checked as its FCS, and the MAXF bytes alone counted (R713; DESIGN CHOICE, assumption log 76). The bytes of a
frame include the FCS, and all are stored (N40; DESIGN CHOICE, assumption log 57). -/
def Eth.rxArrive (f : List Byte) (w : EthWireStatus) (e : Eth) : Eth :=
  let cut := e.tooLong f.length
  let kept := if cut then f.take e.maxFrame else f
  if e.accepts f && decide (64 ≤ kept.length) && (e.macc1.getLsbD 8 || !isControl f) then
    { e with rxFifo := e.rxFifo ++ [{ wire := kept, status := e.rxStatus kept cut w, counts := e.rxCounts kept w }] }
  else { e with counts := e.counts ++ e.rxCounts kept w }

/-- `n` more bytes of the frame reach the FIFO. -/
def EthRxFrame.fill (n : Nat) (f : EthRxFrame) : EthRxFrame :=
  { f with fifo := f.fifo ++ f.wire.take n, wire := f.wire.drop n, arrived := f.arrived + (f.wire.take n).length }

/-- The frame is cut short by an overflow, and OVRN is set (R752, R766). The bytes still in the FIFO are dropped, and SIZE is the number
of bytes stored: neither is stated (DESIGN CHOICE, assumption log 76). -/
def EthRxFrame.cut (f : EthRxFrame) : EthRxFrame :=
  { f with
    fifo := [], wire := [], arrived := f.arrived - f.fifo.length
    status := (f.status &&& ~~~0x0001_0000) ||| 0x0100_0000 }

/-- The next `n` bytes of the frame `f` behind those of `before` reach the FIFO (R765, R782). If it has no room for them it
overflows (OF; R736, R766): the frame is cut short if data of it stand in a buffer or a descriptor of it has been started, and lost
whole otherwise. The statistics count the frame when it has ended (R727). -/
def Eth.rxTake (n : Nat) (before : List EthRxFrame) (f : EthRxFrame) (e : Eth) : Eth :=
  let started := f.stored || before.isEmpty && (match e.rxBuf with | none => false | some b => b.begun)
  if ethFifoSize < e.rxFill + min n f.wire.length then
    { e.flag 0x10 with
      rxFifo := before ++ (if started then [{ f.cut with counts := [] }] else [])
      counts := e.counts ++ f.counts }
  else if (f.wire.drop n).isEmpty then
    { e with rxFifo := before ++ [{ f.fill n with counts := [] }], counts := e.counts ++ f.counts }
  else { e with rxFifo := before ++ [f.fill n] }

/-- The next `n` bytes of the frame that is arriving reach the FIFO. -/
def Eth.rxReceive (n : Nat) (e : Eth) : Eth :=
  match e.rxFifo.getLast? with
  | none => e
  | some f => if f.wire.isEmpty then e else e.rxTake n e.rxFifo.dropLast f

/-- What the remaining number of descriptors `n` sets in En_ISR: RBDRS below four times the alert level, RBDRU at 0 (R736,
R766). -/
def Eth.poolFlags (e : Eth) (n : Nat) : Word :=
  (if n < 4 * e.alert then 0x40 else 0) ||| (if n = 0 then 0x20 else 0)

/-- The entry fetched at En_RXDPR (R766 iii, viii): a link is followed, or a descriptor taken, for which RNOD goes down by one. A Null link
pointer while RNOD > 0 sets no bit: the controller stays there and reads the entry again at its next access (R766; DESIGN CHOICE,
assumption log 76). Nothing is written back to a link-pointer entry (R750, N40; DESIGN CHOICE, assumption log 76). -/
def Eth.rxEntry (p : Port) (e : Eth) : Eth :=
  let w0 := p.word e.rxdpr.toNat
  let w1 := p.word (e.rxdpr.toNat + 4)
  if !p.reads e.rxdpr.toNat 8 then e.checkBus false
  else if isBuffer w0 then
    { e with
      rxpdr := e.rxpdr - 1
      rxBuf := some (ethBuffer e.rxdpr w0 w1)
      rxArmed := false }.flag (e.poolFlags (e.rnod - 1))
  else if w1 = 0 then e
  else { e with rxdpr := w1 &&& 0xFFFF_FFFC }

/-- The controller fetches the entry at En_RXDPR; with RNOD = 0 it takes none. The frame then waits in the FIFO, and is stored whole if
software raises RNOD before the FIFO overflows: R766 says that it is lost or cut short and not when (DESIGN CHOICE, assumption log 80). -/
def Eth.rxFetch (e : Eth) : DmaStep Eth :=
  if e.rnod = 0 then .pure (e.flag (e.poolFlags 0)) else .reading e.rxdpr 8 fun p => e.rxEntry p

/-- The controller sets OWN and clears L of the descriptor whose buffer it has begun to fill; `size` is what SIZE then holds
(R752). -/
def Eth.rxOwn (p : Port) (size : Half) (b : DmaBuffer) (e : Eth) : Eth × List Host.Cell :=
  let word := wordAt b.desc.toNat (merge 0xA000_FFFF b.word (0x2000_0000 ||| size.zeroExtend 32))
  ({ e with rxBuf := some { b with marked := true } }.checkBus (p.writes word), word)

/-- The controller writes a burst of the frame to the data buffer (R766 v, ix); a bus error is DBWE of the frame (R752). It leaves RXOK as
it is: whether the reception then still ends normally is not stated (DESIGN CHOICE, assumption log 76). -/
def Eth.rxStore (p : Port) (words : Nat) (f : EthRxFrame) (behind : List EthRxFrame) (b : DmaBuffer) (e : Eth) :
    Eth × List Host.Cell :=
  let n := burstLength words (ethBurst e.rxcr) b.addr (min b.left (f.fifo.length + f.wire.length)) f.fifo.length
  let bytes := bytesAt b.addr.toNat (f.fifo.take n)
  let ok := p.writes bytes
  ({ e with
     rxFifo := { f with
       fifo := f.fifo.drop n, stored := f.stored || n != 0, status := f.status ||| (if ok then 0 else 0x1000_0000) } :: behind
     rxBuf := some (b.skip n) }.checkBus ok, bytes)

/-- Receive descriptor word 0 as written at the end of a frame: L = OWN = 1, the status bits, the frame's length (R752). -/
def ethRxDoneWord (old status : Word) (length : Nat) : Word :=
  merge 0x1F3F_FFFF (old ||| 0xA000_0000) (status ||| BitVec.ofNat 32 (length % 0x1_0000))

/-- The frame is in memory (R766 x, xi): its status goes to the last descriptor, the pointer moves on, and RCVDN is set. -/
def Eth.rxFinish (p : Port) (f : EthRxFrame) (behind : List EthRxFrame) (b : DmaBuffer) (e : Eth) : Eth × List Host.Cell :=
  let word := wordAt b.desc.toNat (ethRxDoneWord b.word f.status f.arrived)
  (({ e with
      rxFifo := behind
      rxBuf := none
      rxdpr := if b.passed then e.rxdpr else e.rxdpr + 8 }.flag 0x80).checkBus (p.writes word), word)

/-- One access of the receive DMA for the frame `f` with the buffer `b` (R766): the frame's end, the next entry behind a full
buffer, OWN, the advance of the pointer when the buffer is full (vi), or the next burst, once the frame has come beyond the collision
window of 64 bytes (R765) and the FIFO holds more than the drain threshold (R732), or the frame has ended. -/
def Eth.rxMove (words : Nat) (size : Half) (f : EthRxFrame) (behind : List EthRxFrame) (b : DmaBuffer) (e : Eth) : DmaStep Eth :=
  if b.ownDue && !b.passed then .storing fun p => e.rxOwn p size b
  else if f.fifo.isEmpty then .guard f.wire.isEmpty e (.storing fun p => e.rxFinish p f behind b)
  else if b.passed then e.rxFetch
  else if b.left = 0 then .pure { e with rxdpr := e.rxdpr + 8, rxBuf := some { b with passed := true } }
  else
    .guard (f.wire.isEmpty || (decide (64 ≤ f.arrived) && decide (e.rxDrainLevel < f.fifo.length))) e
      (.storing fun p => e.rxStore p words f behind b)

/-- One access of the receive DMA: the first descriptor is taken when En_RXDPR has been written (R766 iii), that of each later
frame once 64 bytes of it have arrived (R765, R766 xii). -/
def Eth.rxDma (words : Nat) (size : Half) (e : Eth) : DmaStep Eth :=
  match e.rxFifo, e.rxBuf with
  | [], none => .guard e.rxArmed e e.rxFetch
  | [], some _ => .pure e
  | f :: _, none => .guard (e.rxArmed || f.wire.isEmpty || decide (64 ≤ f.arrived)) e e.rxFetch
  | f :: behind, some b => e.rxMove words size f behind b

/-! ### The agent (R781) -/

/-- The management access in progress ends (R721, R771). -/
def Eth.miiDone (data : Half) (e : Eth) : Eth :=
  let next := if e.scan then some (MiiOp.read true) else none
  match e.mii with
  | none => e
  | some .write => { e with mii := next }
  | some (.read scan) =>
    { e with mrdd := data.zeroExtend 32, nvalid := if scan then false else e.nvalid, mii := next }

/-- A status vector overrun (R725 C2DV), possible while counts are due. The text gives the name only: whether an overlap sets the bit is
the event's to say, and no count of the overrun vector is lost (DESIGN CHOICE, assumption log 76). -/
def Eth.vectorOverrun (e : Eth) : Eth :=
  if e.counts.isEmpty then e
  else { e with car2 := e.car2 ||| 0x8000_0000, isr := if e.cam2.getLsbD 31 then e.isr ||| 1 else e.isr }

/-- One action of the agent (R781). Transmission goes on while the transmitter is on, reception while the receiver is on and S_GMR.IAEN =
1; of the transmitter's actions all that reach memory or En_ISR need IAEN = 1 too. A frame begins to arrive once the one before has
arrived. A frame under way when TXE, RXE or SRXEN is cleared stays where it is and goes on when the bit is set again: R728 and R731 do
not say what becomes of it (DESIGN CHOICE, assumption log 74). One that begins to arrive while RXE, SRXEN or IAEN is 0 is lost and counts
in no statistics, which is not stated (R706, R781; DESIGN CHOICE, assumption log 76). A software reset by MCRST or SRT does not stop
management accesses and scans, nor the counting of frames that have ended: R709 and R735 do not say that it does (DESIGN CHOICE,
assumption log 80). -/
def Eth.event (granted : Bool) (ev : EthEvent) (e : Eth) : DmaStep Eth :=
  match ev with
  | .txDma words => .guard (granted && e.txOn && !e.txHalted) e (e.txDma words)
  | .txDrain n => .pure (if e.txOn then e.txDrain n else e)
  | .txDone w => .guard (granted && e.txOn) e (e.txDone w)
  | .rxArrive f w => .pure (if granted && e.rxOn && e.rxIdle then e.rxArrive f w else e)
  | .rxFill n => .pure (if granted && e.rxOn then e.rxReceive n else e)
  | .rxDma words size => .guard (granted && e.rxOn) e (e.rxDma words size)
  | .count => .pure e.takeCount
  | .vectorOverrun => .pure e.vectorOverrun
  | .miiDone data => .pure (e.miiDone data)

end Sys2Proof.Machine
end

