-- ==== Sys2Proof/Machine/UsbDma.lean ====
section
/-! DEFINITION. What the USB controller does on its own (spec/53_platform_usb.md R835–R871): transmission, reception, loopback,
frame numbers, suspend and resume: the actions of the agent "USB host and DMA" of R881. -/
namespace Sys2Proof.Machine

/-! ### Endpoints -/

/-- The enable bit of endpoint `n` (R813–R819). -/
def Usb.enabled (u : Usb) (n : Fin 7) : Bool := u.epcr[n].getLsbD 31

/-- The endpoint of transmit queue `q`. -/
def usbTxEndpoint (q : Fin 4) : Fin 7 := match q with | 0 => 0 | 1 => 1 | 2 => 3 | 3 => 5

/-- The endpoint of receive slot `q`. -/
def usbRxEndpoint (q : Fin 4) : Fin 7 := match q with | 0 => 0 | 1 => 2 | 2 => 4 | 3 => 6

/-- The pool of receive slot `q` (R847). -/
def usbRxPool (q : Fin 4) : Fin 3 := match q with | 0 => 0 | 1 => 1 | 2 => 2 | 3 => 0

/-- MAXP of endpoint `n`: ten bits for the isochronous endpoints, seven for the others (R813–R819). -/
def Usb.maxPacket (u : Usb) (n : Fin 7) : Nat :=
  if n = 1 ∨ n = 2 then (u.epcr[n].extractLsb' 0 10).toNat else (u.epcr[n].extractLsb' 0 7).toNat

/-- U_GMR.LE: loopback (R865). -/
def Usb.loopback (u : Usb) : Bool := u.gmr.getLsbD 1

/-- Transmit endpoint `q` answers a token with STALL or NAK (R813, R816, R818). -/
def Usb.txRefuses (u : Usb) (q : Fin 4) : Bool :=
  match q with
  | 0 => (u.epcr[0] &&& 0x0018_0000) != 0
  | 1 => false
  | 2 => (u.epcr[3] &&& 0x0005_0000) != 0
  | 3 => (u.epcr[5] &&& 0x0005_0000) != 0

/-- Receive slot `q` answers a packet with STALL or NAK (R813, R817, R819). With NHSK = 1 it answers nothing, and the packet is stored
like one that has been acknowledged: what becomes of it is not stated (DESIGN CHOICE, assumption log 77). STALL and NAK
win over NHSK where several bits are set, of which the spec says nothing (N45; DESIGN CHOICE, assumption log 77). -/
def Usb.rxRefuses (u : Usb) (q : Fin 4) : Bool :=
  match q with
  | 0 => (u.epcr[0] &&& 0x0005_0000) != 0
  | 1 => false
  | 2 => (u.epcr[4] &&& 0x0005_0000) != 0
  | 3 => (u.epcr[6] &&& 0x0005_0000) != 0

/-- The transmit mode (R837): NZLP by the TM bit on EP1 and EP3, always on EP0 and EP5. -/
def Usb.nzlp (u : Usb) (q : Fin 4) : Bool :=
  match q with | 1 => u.epcr[1].getLsbD 19 | 2 => u.epcr[3].getLsbD 19 | _ => true

/-- The receive modes (R848). -/
inductive UsbMode where
  /-- An indication for every packet. -/
  | normal
  /-- An indication for every segment. -/
  | assemble
  /-- An indication for every full buffer. -/
  | separate
deriving DecidableEq, Repr

/-- The receive mode of slot `q`: RM of EP2 and EP4, always normal on EP0 and EP6 (R815, R817, R848). -/
def Usb.rxMode (u : Usb) (q : Fin 4) : UsbMode :=
  let rm : BitVec 2 := match q with
    | 1 => u.epcr[2].extractLsb' 19 2
    | 2 => u.epcr[4].extractLsb' 19 2
    | _ => 0
  if rm = 0b10 then .assemble else if rm = 0b11 then .separate else .normal

/-- Set bits of U_GSR1 (R808). -/
def Usb.flag1 (u : Usb) (bits : Word) : Usb := { u with gsr1 := u.gsr1 ||| bits }

/-- Set bits of U_GSR2 (R810). -/
def Usb.flag2 (u : Usb) (bits : Word) : Usb := { u with gsr2 := u.gsr2 ||| bits }

/-- DER, if a DMA access failed (R808). -/
def Usb.checkBus (u : Usb) (ok : Bool) : Usb := if ok then u else u.flag1 0x400

/-- The longest burst in words; the spec gives none (R881; DESIGN CHOICE, assumption log 59). -/
def usbBurst : Nat := 16

/-! ### Transmission (R835–R840) -/

/-- A Tx indication (R840): EPN in bits 15:13, the mode in bit 8 and the status are fixed; the reserved bits are `fill`. -/
def Usb.txIndication (u : Usb) (q : Fin 4) (fill : Word) : Word :=
  merge 0xFFFF_18FF
    (BitVec.ofNat 32 (2 * q.val) <<< 13 ||| (if u.nzlp q then 0x100 else 0) ||| (u.tx[q].status &&& 0x600)) fill

/-- The Tx mailbox takes no indication: it is full, or U_TMWA lies outside the ring (R830). -/
def Usb.txBlocked (u : Usb) : Bool :=
  u.tmFull || decide (u.tmwa.toNat < u.tmsa.toNat) || decide (u.tmba.toNat < u.tmwa.toNat + 4)

/-- The scheduled segment at the head of queue `q` has ended (R839 steps 14 and 15): the indication goes to U_TMWA, the write
pointer advances and wraps (R830), EPnTF and, when the mailbox becomes full, TMF are set. It waits while the mailbox is full, and with it
this endpoint alone: whether transfers stall then is not stated (R830, U54; DESIGN CHOICE, assumption log 77). A mailbox that cannot be
written is a DMA error (R808). -/
def Usb.txReport (p : Port) (q : Fin 4) (fill : Word) (u : Usb) : Usb × List Host.Cell :=
  if u.txBlocked then (u, [])
  else
    let next := if u.tmwa + 4 = u.tmba then u.tmsa else u.tmwa + 4
    let isFull : Bool := decide (next = u.tmra)
    let word := wordAt u.tmwa.toNat (u.txIndication q fill)
    (({ u with
       txQueue := u.txQueue.set q u.txQueue[q].tail
       tx := u.tx.set q {}
       tmwa := next
       tmFull := isFull }.flag1 (BitVec.twoPow 32 (2 * q.val) ||| (if isFull then 0x0080_0000 else 0)))
      |>.checkBus (p.writes word), word)

/-- The transmission of a segment ends abnormally after a bus error (R808, R840). -/
def UsbTx.fail (t : UsbTx) : UsbTx := { t with ended := true, status := t.status ||| 0x400 }

/-- The bytes that the Tx FIFO of transmit endpoint `q` holds (R801). -/
def usbTxFifoSize (q : Fin 4) : Nat := match q with | 0 => 64 | 1 => 128 | 2 => 128 | 3 => 64

/-- The bytes of the segment that have been read. -/
def UsbTx.got (t : UsbTx) : Nat := t.done + t.out.length + t.fifo.length

/-- The bytes of the next packet of a segment of `size` bytes. -/
def Usb.packetSize (u : Usb) (q : Fin 4) (size : Nat) : Nat :=
  min (u.maxPacket (usbTxEndpoint q)) (size - u.tx[q].done)

/-- The next packet of a segment of `size` bytes has begun to leave, or can: it is in the FIFO whole, or the FIFO has no room for
another word (R839 steps 9 and 13). With MAXP = 0 only a segment of 0 bytes can be sent. -/
def Usb.txReady (u : Usb) (q : Fin 4) (size : Nat) : Bool :=
  let t := u.tx[q]
  !t.ended && (!t.out.isEmpty || decide (u.packetSize q size ≤ t.fifo.length) ||
      decide (usbTxFifoSize q < t.fifo.length + 4)) &&
    (u.maxPacket (usbTxEndpoint q) != 0 || decide (size ≤ t.done))

/-- The transmit DMA fetches the entry at `entry` of the directory: a descriptor, or a link (R836, R839 steps 6 and 12). -/
def UsbTx.fetch (p : Port) (entry : Word) (t : UsbTx) : UsbTx :=
  let w1 := p.word (entry.toNat + 4)
  if !p.reads entry.toNat 8 then t.fail
  else if isBuffer (p.word entry.toNat) then
    { t with entry := some (entry + 8), addr := w1, left := descSize (p.word entry.toNat) }
  else { t with entry := some w1 }

/-- The transmit DMA reads `n` bytes of the current buffer into the FIFO (R839 steps 8 and 10). -/
def UsbTx.read (p : Port) (n : Nat) (t : UsbTx) : UsbTx :=
  if p.reads t.addr.toNat n then
    { t with
      addr := t.addr + BitVec.ofNat 32 n
      left := t.left - n
      fifo := t.fifo ++ p.bytes t.addr.toNat n }
  else t.fail

/-- The transmit side of endpoint `q` after an access of the DMA, with DER if it failed. -/
def Usb.setTx (u : Usb) (q : Fin 4) (t : UsbTx) : Usb := { u with tx := u.tx.set q t }.checkBus (!t.ended)

/-- One access of the transmit DMA for the segment at `dir` of `size` bytes: it goes on until the FIFO has no room for another word or
the segment has been read (R839 steps 6–12). The end of the segment is taken from the size of the command, not from the L bit (R839,
U57; DESIGN CHOICE, assumption log 59). A directory that is not word-aligned is read from its byte address on, and a buffer of size 0
is empty, behind which the next entry is fetched: neither is stated (R821, R836, N45; DESIGN CHOICE, assumption log 77). -/
def Usb.txDma (q : Fin 4) (words : Nat) (fill : Word) (dir : Word) (size : Nat) (u : Usb) : DmaStep Usb :=
  let t := u.tx[q]
  let entry := t.entry.getD dir
  let room := usbTxFifoSize q - t.fifo.length
  let n := burstLength words usbBurst t.addr (min t.left (size - t.got)) room
  if t.ended then .storing fun p => u.txReport p q fill
  else if size ≤ t.got ∨ room = 0 then .pure u
  else if t.left = 0 then .reading entry 8 fun p => u.setTx q (t.fetch p entry)
  else .guard (n != 0) u (.reading t.addr n fun p => u.setTx q (t.read p n))

/-- A packet leaves endpoint `q`: to the host, or in loopback to the receive side (R835, R865). -/
def Usb.emit (q : Fin 4) (bytes : List Byte) (u : Usb) : Usb :=
  if u.loopback then { u with looped := u.looped.set q (u.looped[q] ++ [bytes]) }
  else { u with sent := u.sent.set q (bytes :: u.sent[q]) }

/-- Up to `n` bytes of the packet that the host takes leave the FIFO (R839 step 9). -/
def Usb.txBytes (q : Fin 4) (n : Nat) (size : Nat) (u : Usb) : Usb :=
  let t := u.tx[q]
  let k := min n (u.packetSize q size - t.out.length)
  if u.txReady q size then
    { u with tx := u.tx.set q { t with fifo := t.fifo.drop k, out := t.out ++ t.fifo.take k } }
  else u

/-- A packet of endpoint `q` has left with the bytes `sent`; `status` for its Tx indication. The segment of `size` bytes ends with a
packet shorter than MAXP, or, in NZLP mode, with its last byte (R835, R837). -/
def Usb.txSent (q : Fin 4) (size : Nat) (sent rest : List Byte) (status : Word) (u : Usb) : Usb :=
  let t := u.tx[q]
  let done := t.done + sent.length
  let short := decide (sent.length < u.maxPacket (usbTxEndpoint q)) || sent.isEmpty
  { u with tx := u.tx.set q { t with
      fifo := rest, out := [], done := done
      ended := decide (done = size) && (short || u.nzlp q)
      status := t.status ||| status } }.emit q sent

/-- The packet that the host takes from the segment of `size` bytes ends (R835, R837, R839 steps 9 and 13): the next MAXP bytes or
what is left, and in SZLP mode a zero-length packet behind a last packet of MAXP bytes. An underrun of EP1, whose FIFO has become
empty in the packet (R808 EP1FU), ends it with the bytes that have left (DESIGN CHOICE, assumption log 59). -/
def Usb.txPacket (q : Fin 4) (underrun : Bool) (size : Nat) (u : Usb) : Usb :=
  let t := u.tx[q]
  let missing := u.packetSize q size - t.out.length
  if !u.txReady q size then u
  else if missing ≤ t.fifo.length then u.txSent q size (t.out ++ t.fifo.take missing) (t.fifo.drop missing) 0
  else if underrun && q == 1 && t.fifo.isEmpty then (u.txSent q size t.out [] 0x200).flag1 0x100
  else u

/-! ### Reception (R845–R857) -/

/-- The mode bits 17:16 of an Rx indication (R857). -/
def UsbMode.bits : UsbMode → Word
  | .normal => 0
  | .assemble => 0x0002_0000
  | .separate => 0x0003_0000

/-- The status bits of an Rx indication that slot `q` can set: 25, 22, 20 and 19 on EP2, 23 on EP0, 24 on all (R857). -/
def usbRxStatusBits (q : Fin 4) : Word :=
  0x0100_0000 ||| (if q = 0 then 0x0080_0000 else 0) ||| (if q = 1 then 0x0258_0000 else 0)

/-- Word 0 of an Rx indication (R857): EPN, status, mode, and the size up to FFFFH; the reserved bits 28:26 and 21 are
`fill`. The status is that of slot `q` so far and of the packet at the head of the FIFO. -/
def Usb.rxIndication (u : Usb) (q : Fin 4) (status fill : Word) : Word :=
  let r := u.rx[q]
  merge 0x1C20_0000
    (BitVec.ofNat 32 (2 * q.val + 1) <<< 29 ||| ((r.status ||| status) &&& usbRxStatusBits q) ||| (u.rxMode q).bits |||
      (if 65535 < r.size then 0x0004_0000 else 0) ||| BitVec.ofNat 32 (min r.size 65535)) fill

/-- The Rx mailbox takes no indication: it is full, or U_RMWA lies outside the ring (R830). -/
def Usb.rxBlocked (u : Usb) : Bool :=
  u.rmFull || decide (u.rmwa.toNat < u.rmsa.toNat) || decide (u.rmba.toNat < u.rmwa.toNat + 8)

/-- The receive side of slot `q`, replaced. -/
def Usb.setRx (u : Usb) (q : Fin 4) (r : UsbRx) : Usb := { u with rx := u.rx.set q r }

/-- The receive FIFO, replaced. -/
def Usb.setFifo (u : Usb) (l : List UsbPacket) : Usb := { u with rxFifo := l }

/-- An Rx indication is written (R850–R852, R857): two words go to U_RMWA, the write pointer advances and wraps (R830), EPnRF
and, when the mailbox becomes full, RMF are set. `desc` is the descriptor that it names; `after` is the receive side then, and
`fifo` the receive FIFO. It waits while the mailbox is full, and with it everything behind the head of the receive FIFO, on any endpoint
(R830, U54; DESIGN CHOICE, assumption log 77). -/
def Usb.rxReport (p : Port) (q : Fin 4) (desc : Option Word) (status fill : Word) (after : UsbRx) (fifo : List UsbPacket)
    (u : Usb) : Usb × List Host.Cell :=
  if u.rxBlocked then (u, [])
  else
    let next := if u.rmwa + 8 = u.rmba then u.rmsa else u.rmwa + 8
    let isFull : Bool := decide (next = u.rmra)
    let bytes := wordsAt u.rmwa.toNat [u.rxIndication q status fill, desc.getD fill]
    ((({ u with rmwa := next, rmFull := isFull }.setRx q after).setFifo fifo).flag1
      (BitVec.twoPow 32 (2 * q.val + 1) ||| (if isFull then 0x0040_0000 else 0)) |>.checkBus (p.writes bytes), bytes)

/-- The controller follows a link pointer (R850 step 6): RNOD is decremented, U_RPnAR takes the new directory, RPAn is
set at 4 × AL or less (AL ≠ 0), RPEn when the pool is empty (R808, R823). Both are events of this moment: a read of U_GSR1 clears them,
and a pool that stays empty or low does not set them again, of which R808 says nothing (DESIGN CHOICE, assumption log 77). -/
def Usb.advance (p : Fin 3) (dir : Word) (u : Usb) : Usb :=
  let u1 := { u with
    rpir := u.rpir.set p (u.rpir[p] - 1)
    rpar := u.rpar.set p dir
    rxEntry := u.rxEntry.set p dir }
  u1.flag1
    ((if u1.alert p ≠ 0 ∧ u1.rnod p ≤ 4 * u1.alert p then BitVec.twoPow 32 (16 + p.val) else 0) |||
     (if u1.rnod p = 0 then BitVec.twoPow 32 (19 + p.val) else 0))

/-- The processing of a received segment ends abnormally after a bus error (R808, R857 bit 24). -/
def Usb.rxFail (q : Fin 4) (u : Usb) : Usb :=
  (u.setRx q { u.rx[q] with status := u.rx[q].status ||| 0x0100_0000 }).checkBus false

/-- The next entry of the pool, fetched at `entry` (R850 steps 4–6, R851 steps 5–7): a descriptor, or a link, which leaves a
directory. L as software prepared it is not looked at: the pool ends by RNOD alone, and no rule says what the controller does at L = 1
(R846; DESIGN CHOICE, assumption log 77). -/
def Usb.rxTakeEntry (p : Port) (q : Fin 4) (entry : Word) (u : Usb) : Usb :=
  let pool := usbRxPool q
  let w0 := p.word entry.toNat
  let w1 := p.word (entry.toNat + 4)
  if !p.reads entry.toNat 8 then u.rxFail q
  else if isBuffer w0 then
    { u with rxEntry := u.rxEntry.set pool (entry + 8) }.setRx q { u.rx[q] with
      buf := some { desc := entry, word := w0, addr := w1, left := descSize w0 }
      first := some (u.rx[q].first.getD entry) }
  else u.advance pool w1

/-- The controller fetches the next entry of the pool; an empty pool has none. One that is not word-aligned is read from its byte address
on (R821, N45; DESIGN CHOICE, assumption log 77). -/
def Usb.rxFetch (q : Fin 4) (u : Usb) : DmaStep Usb :=
  let entry := u.rxEntry[usbRxPool q]
  .guard (u.rnod (usbRxPool q) != 0) u (.reading entry 8 fun p => u.rxTakeEntry p q entry)

/-- The bytes that the shared receive FIFO holds (R801). -/
def usbRxFifoSize : Nat := 128

/-- The bytes in the receive FIFO. -/
def Usb.rxFill (u : Usb) : Nat := (u.rxFifo.map fun k => k.fifo.length).sum

/-- No packet is arriving. -/
def Usb.rxIdle (u : Usb) : Bool := u.rxFifo.all fun k => k.wire.isEmpty

/-- The whole packet stands in the buffers. -/
def UsbPacket.stored (k : UsbPacket) : Bool := k.fifo.isEmpty && k.wire.isEmpty && k.skip == 0

/-- The controller stores a burst of the packet (R850 step 7). -/
def Usb.rxStore (p : Port) (words : Nat) (k : UsbPacket) (behind : List UsbPacket) (b : DmaBuffer) (u : Usb) :
    Usb × List Host.Cell :=
  let n := burstLength words usbBurst b.addr (min b.left (k.fifo.length + k.wire.length)) k.fifo.length
  let bytes := bytesAt b.addr.toNat (k.fifo.take n)
  let r := u.rx[k.slot]
  if p.writes bytes then
    ((u.setRx k.slot { r with buf := some (b.skip n), size := r.size + n }).setFifo ({ k with fifo := k.fifo.drop n } :: behind),
      bytes)
  else (u.rxFail k.slot, bytes)

/-- Past the bytes that have arrived the buffer pointer moves over those that were lost, without a transfer (R855, R856). -/
def Usb.rxSkip (k : UsbPacket) (behind : List UsbPacket) (b : DmaBuffer) (u : Usb) : Usb :=
  let n := min k.skip b.left
  let r := u.rx[k.slot]
  (u.setRx k.slot { r with buf := some (b.skip n), size := r.size + n }).setFifo ({ k with skip := k.skip - n } :: behind)

/-- The controller updates the descriptor of the last buffer (R848, R850 step 8): L and the number of bytes stored in it; a bus
error there ends the segment abnormally (R857 bit 24). -/
def Usb.rxUpdate (p : Port) (q : Fin 4) (b : DmaBuffer) (u : Usb) : Usb × List Host.Cell :=
  let word := wordAt b.desc.toNat
    (merge 0x8000_FFFF b.word (0x8000_0000 ||| BitVec.ofNat 32 (descSize b.word - b.left)))
  let updated := u.setRx q { u.rx[q] with buf := some { b with marked := true } }
  (if p.writes word then updated else updated.rxFail q, word)

/-- What the receive DMA does once the packet is stored (R850 step 8, R851 steps 9 and 10, R852 steps 9–11): normal mode reports
every packet and assemble mode every segment, once the descriptor is updated; separate mode every full buffer and every short
packet. A loss or an overrun is reported without the end of a segment, and the next data go behind the room left (R855, R856).
The CRC and bit-stuffing errors of a segment are those of its last packet in assemble mode (R857). -/
def Usb.rxPacketStored (first : Bool) (fill : Word) (k : UsbPacket) (behind : List UsbPacket) (b : DmaBuffer) (u : Usb) :
    DmaStep Usb :=
  let q := k.slot
  let r := u.rx[q]
  let desc := if first then r.first else some b.desc
  let ends := match u.rxMode q with | .normal => true | .assemble => k.short | .separate => k.short || b.left == 0
  let kept : Word := if u.rxMode q = .assemble then ~~~0x0018_0000 else ~~~0
  let after : UsbRx := if u.rxMode q = .separate then { buf := some b, first := some b.desc } else r
  if ends && u.rxMode q != .separate && !b.marked then .storing fun p => u.rxUpdate p q b
  else if ends then .storing fun p => u.rxReport p q desc k.status fill {} behind
  else if k.report then .storing fun p => u.rxReport p q desc k.status fill after behind
  else .pure ((u.setRx q { r with status := r.status ||| (k.status &&& kept) }).setFifo behind)

/-- One access of the receive DMA for the packet `k` at the head of the FIFO, in the buffer `b`. A buffer of size 0 is full at once: the
next entry is fetched, in separate mode after its indication (R846; not stated: DESIGN CHOICE, assumption log 77). -/
def Usb.rxMove (words : Nat) (first : Bool) (fill : Word) (k : UsbPacket) (behind : List UsbPacket) (b : DmaBuffer) (u : Usb) :
    DmaStep Usb :=
  let r := u.rx[k.slot]
  let desc := if first then r.first else some b.desc
  if k.stored then u.rxPacketStored first fill k behind b
  else if k.fifo.isEmpty && k.skip == 0 then .pure u
  else if b.left = 0 then
    if u.rxMode k.slot = .separate then .storing fun p => u.rxReport p k.slot desc k.status fill {} (k :: behind)
    else u.rxFetch k.slot
  else if k.fifo.isEmpty then .pure (u.rxSkip k behind b)
  else .storing fun p => u.rxStore p words k behind b

/-- One access of the receive DMA for the packet at the head of the FIFO. That of a disabled endpoint is discarded; after a bus
error the segment is reported, and the rest of the packet is lost (R857 bit 24). -/
def Usb.rxDma (words : Nat) (first : Bool) (fill : Word) (u : Usb) : DmaStep Usb :=
  match u.rxFifo with
  | [] => .pure u
  | k :: behind =>
    let r := u.rx[k.slot]
    if !u.enabled (usbRxEndpoint k.slot) then .pure (u.setFifo behind)
    else if r.status.getLsbD 24 then .storing fun p => u.rxReport p k.slot r.first k.status fill {} behind
    else match r.buf with
    | none => u.rxFetch k.slot
    | some b => u.rxMove words first fill k behind b

/-- Slot `q` can take a packet of `n` bytes: it is enabled, no other packet is arriving, the packet is no longer than MAXP, and the
FIFO has room for it but on EP2, where it can overrun (R856). A longer packet is dropped whole, on EP2 too, for which the spec gives the
bit EP2OS only (R810, R845; DESIGN CHOICE, assumption log 77). -/
def Usb.rxReady (u : Usb) (q : Fin 4) (n : Nat) : Bool :=
  u.enabled (usbRxEndpoint q) && u.rxIdle && decide (n ≤ u.maxPacket (usbRxEndpoint q)) &&
    (q == 1 || decide (u.rxFill + n ≤ usbRxFifoSize))

/-- A packet arrives for slot `q` (R850–R852 steps 1–3): that of EP2 byte by byte, as there is no handshake; any other is in the
FIFO when it has been acknowledged. It ends a segment if it is shorter than MAXP, or of no bytes (R845, R851). -/
def Usb.rxAccept (q : Fin 4) (bytes : List Byte) (w : UsbWireStatus) (u : Usb) : Usb :=
  u.setFifo (u.rxFifo ++ [{
    slot := q
    fifo := if q = 1 then [] else bytes
    wire := if q = 1 then bytes else []
    arrived := if q = 1 then 0 else bytes.length
    short := bytes.isEmpty || decide (bytes.length < u.maxPacket (usbRxEndpoint q))
    status := (if w.setup then 0x0080_0000 else 0) ||| (if w.crc then 0x0010_0000 else 0) |||
      (if w.stuff then 0x0008_0000 else 0) }])

/-- A packet of the host arrives (R850, R857): SETUP on EP0 is always taken and clears ISS and OSS (R813); stored errors exist on
EP2 only; any other endpoint drops a packet with an error, or one that finds no room, for the host to send again. -/
def Usb.rxPacket (q : Fin 4) (bytes : List Byte) (w : UsbWireStatus) (u : Usb) : Usb :=
  let setup := w.setup && q == 0
  let ok := q == 1 || !(w.crc || w.stuff)
  if !u.rxReady q bytes.length || !ok then u
  else if setup then { u with epcr := u.epcr.set 0 (u.epcr[0] &&& ~~~0x0014_0000) }.rxAccept q bytes w
  else if u.rxRefuses q then u
  else u.rxAccept q bytes { w with setup := false }

/-- `n` more bytes of the packet reach the FIFO. -/
def UsbPacket.fill (n : Nat) (k : UsbPacket) : UsbPacket :=
  { k with fifo := k.fifo ++ k.wire.take n, wire := k.wire.drop n, arrived := k.arrived + (k.wire.take n).length }

/-- An overrun: the rest of the packet is discarded. But for normal mode dummy bytes fill it up to MAXP2, so that it is no short
packet (DESIGN CHOICE, assumption log 59); separate mode reports the overrun with it (R856). -/
def Usb.rxOverrun (k : UsbPacket) (u : Usb) : UsbPacket :=
  let mode := u.rxMode 1
  { k with
    wire := []
    skip := if mode = .normal then 0 else u.maxPacket 2 - k.arrived
    short := k.short && mode == .normal
    report := mode == .separate
    status := k.status ||| 0x0040_0000 }

/-- The next `n` bytes of the packet that is arriving reach the FIFO (R801); what it has no room for is lost, with EP2FO
(R808, R856). -/
def Usb.rxBytes (n : Nat) (u : Usb) : Usb :=
  match u.rxFifo.getLast? with
  | none => u
  | some k =>
    let room := usbRxFifoSize - u.rxFill
    if k.wire.isEmpty then u
    else if min n k.wire.length ≤ room then u.setFifo (u.rxFifo.dropLast ++ [k.fill n])
    else (u.setFifo (u.rxFifo.dropLast ++ [u.rxOverrun (k.fill room)])).flag1 0x200

/-- In loopback the oldest packet sent on the paired endpoint comes back (R865). -/
def Usb.loopBack (q : Fin 4) (u : Usb) : Usb :=
  match u.looped[q] with
  | [] => u
  | bytes :: rest =>
    if u.rxReady q bytes.length && !u.rxRefuses q then { u with looped := u.looped.set q rest }.rxAccept q bytes {} else u

/-- A frame passes without a packet on EP2 (R855): EP2ND; but for normal mode the buffer pointer moves on by MAXP2 behind the data
received before, and the loss is reported: in separate mode then, in assemble mode then or with the segment, which is not stated
(`early`). -/
def Usb.isoLost (early : Bool) (u : Usb) : Usb :=
  if !u.enabled 2 || !u.rxIdle then u
  else
    let u := u.flag2 0x20
    if u.rxMode 1 = .normal then u
    else u.setFifo (u.rxFifo ++ [{
      slot := 1, skip := u.maxPacket 2, report := early || u.rxMode 1 == .separate, status := 0x0200_0000 }])

/-! ### The host (R810, R853, R854, R861, R870) -/

/-- A packet of EP1 is ready for the host. -/
def Usb.ep1Ready (u : Usb) : Bool :=
  match u.txQueue[(1 : Fin 4)] with
  | [] => false
  | seg :: _ => u.txReady 1 seg.2.toNat

/-- The status bit of what the host does; those of EP1 and EP2 only while the endpoint is enabled (R810). -/
def Usb.notice (n : UsbNotice) (u : Usb) : Usb :=
  match n with
  | .busReset => u.flag2 0x0002_0000
  | .illegalEndpoint => u.flag2 0x0008_0000
  | .oversize => if u.enabled 2 then u.flag2 0x80 else u
  | .extraData => if u.enabled 2 then u.flag2 0x40 else u
  | .noToken => if u.enabled 1 then u.flag2 0x10 else u
  | .extraToken => if u.enabled 1 then u.flag2 0x08 else u
  | .noData => if u.enabled 1 && !u.ep1Ready then u.flag2 0x04 else u

/-- SOFINTVL = 0: the timing of SOF packets is ignored (R806, R862). -/
def Usb.sofUntimed (u : Usb) : Bool := u.gmr.extractLsb' 8 8 == (0 : BitVec 8)

/-- An SOF packet with an error, or with a number that does not follow the last one: IFN, and FN by AU (R861). -/
def Usb.sofIllegal (n : BitVec 11) (u : Usb) : Usb :=
  { u.flag2 0x0030_0000 with ufnr := if u.gmr.getLsbD 2 then u.ufnr + 1 else n }

/-- The frame number policy (R861); FW is bit 21, IFN bit 20, ES bit 1, SL bit 0 of U_GSR2. -/
def Usb.sof (c : SofCase) (u : Usb) : Usb :=
  match c with
  | .received n => if n = u.ufnr + 1 then { u.flag2 0x0020_0000 with ufnr := n } else u.sofIllegal n
  | .loss =>
    if u.sofUntimed then u
    else if u.gmr.getLsbD 2 then { u.flag2 0x0020_0001 with ufnr := u.ufnr + 1 }
    else u.flag2 1
  | .extra => if u.sofUntimed then u else u.flag2 2
  | .corrupt n => u.sofIllegal n

/-- The transmit DMA of endpoint `q` has begun a segment and can go on. -/
def Usb.transmitting (p : Port) (q : Fin 4) (u : Usb) : Bool :=
  match u.txQueue[q] with
  | [] => false
  | seg :: _ =>
    u.enabled (usbTxEndpoint q) && u.tx[q].entry.isSome && (u.txDma q usbBurst 0 seg.1 seg.2.toNat).acts p u

/-- A DMA transfer is in progress: the next access of the DMA would do something. The block does not go into the suspend state
then (R870). -/
def Usb.dmaBusy (p : Port) (granted : Bool) (u : Usb) : Bool :=
  granted && ((u.rxDma usbBurst true 0).acts p u || u.transmitting p 0 || u.transmitting p 1 || u.transmitting p 2 ||
    u.transmitting p 3)

/-- The bus goes into the suspend state (R870), unless a DMA transfer is in progress. -/
def Usb.suspend (p : Port) (granted : Bool) (u : Usb) : Usb :=
  if u.dmaBusy p granted then u else { u.flag2 0x0001_0000 with suspended := true, waking := false }

/-- An action on the segment at the head of transmit queue `q`, if its endpoint is enabled and there is one. -/
def Usb.onSegment (q : Fin 4) (ok : Bool) (act : Word → Nat → DmaStep Usb) (u : Usb) : DmaStep Usb :=
  match u.txQueue[q] with
  | [] => .pure u
  | seg :: _ => .guard (ok && u.enabled (usbTxEndpoint q)) u (act seg.1 seg.2.toNat)

/-- The remote resume signal has been sent (R806, R870): RR returns to 0; sent while the USB was suspended it is a remote
wake-up. -/
def Usb.resumeSent (u : Usb) : Usb :=
  if u.gmr.getLsbD 0 then { u with gmr := u.gmr &&& ~~~1, waking := u.waking || u.suspended } else u

/-- One action of the agent (R881), possible while the block's clock runs (`running`); DMA needs S_GMR.IAEN = 1 as well
(`granted`). The traffic stands still while the USB is suspended; in loopback the host's packets do not reach the block
(R865). -/
def Usb.event (running granted : Bool) (ev : UsbEvent) (u : Usb) : DmaStep Usb :=
  let awake := running && !u.suspended
  let wire := awake && !u.loopback
  match ev with
  | .execute => .pure (if running then u.execute else u)
  | .txDma q words fill => u.onSegment q (awake && granted) fun dir size => u.txDma q words fill dir size
  | .txBytes q n => u.onSegment q (awake && !u.txRefuses q) fun _ size => .pure (u.txBytes q n size)
  | .txPacket q underrun => u.onSegment q (awake && !u.txRefuses q) fun _ size => .pure (u.txPacket q underrun size)
  | .rxPacket q bytes w => .pure (if wire then u.rxPacket q bytes w else u)
  | .rxBytes n => .pure (if awake then u.rxBytes n else u)
  | .loopback q => .pure (if awake && u.loopback then u.loopBack q else u)
  | .isoLost early => .pure (if wire then u.isoLost early else u)
  | .rxDma words first fill => .guard (awake && granted) u (u.rxDma words first fill)
  | .notice n => .pure (if wire || (running && n == .busReset) then u.notice n else u)
  | .sof c => .pure (if wire then u.sof c else u)
  | .resumeSent => .pure (if running then u.resumeSent else u)
  | .suspend => .guard awake u (.storing fun p => (u.suspend p granted, []))
  | .resume =>
    .pure (if running && u.suspended then { u.flag2 0x0004_0000 with suspended := false, waking := false } else u)
  | .wakeupEnded => .pure (if running && u.waking then { u with suspended := false, waking := false } else u)

end Sys2Proof.Machine
end

