-- ==== Sys2Proof/Machine/Env.lean ====
section
/-! DEFINITION. What happens between two instructions (spec/20_memory.md R165, spec/92_eei_decisions.md D4, D6, D47): the
events that reach the chip from outside, the time that passes, the edges that the interrupt logic captures, and wake-up. -/
namespace Sys2Proof.Machine

/-! ### Memory as the bus masters see it (R162, R163, R165) -/

/-- The bytes that bus masters still read while a write is posted. -/
def PostedWrite.replaced : PostedWrite → List Host.Cell
  | .memory replaced => replaced
  | .single _ _ _ => []
  | .burst _ _ => []

/-- The byte that the first of the lists that hold address `a` holds there. -/
def pendingByte (a : Nat) : List (List Host.Cell) → Option Byte
  | [] => none
  | l :: rest =>
    match l.lookup a with
    | some b => some b
    | none => pendingByte a rest

/-- The byte of memory at `a` without the CPU writes that are still pending: the oldest of them tells what it was before. -/
def State.landedByte (s : State) (a : Nat) : Byte :=
  (pendingByte a (s.writeFifo :: s.posted.map PostedWrite.replaced)).getD (s.mem.byte a)

/-- The address that a bus master's address means (R137). -/
def masterFold (a : Nat) : Nat := a % 0x2000_0000

/-- The address of a bus master lies in the window onto the PCI bus. -/
def inWindow (a : Nat) : Bool := decide (0x1010_0000 ≤ masterFold a) && decide (masterFold a < 0x1030_0000)

/-- The bus master's address selects a range of the memory side that is no SDRAM and no boot ROM: a memory access to an illegal memory
space (R531, R550). -/
def State.illegalMemory (s : State) (a : Nat) : Bool :=
  s.region (masterFold a) == .memReserved || s.region (masterFold a) == .romOutside

/-- A bus master's access to the addresses `l`: MAERR if one of them is illegal memory (R531, R550; for the ranges of which R550 does
not speak DEDUCED, assumption log 65). The IBUS bus error that the master gets leaves S_NSR.IBERR alone: R531 names a bus error of an
IBUS master access and not whose access, and the model takes the one that the system controller makes for the core (DESIGN CHOICE,
assumption log 65). -/
def State.checkMaster (s : State) (l : List Nat) : State := if l.any s.illegalMemory then s.nmiCause nsrMAERR else s

/-- System memory for a bus master, but for the window onto the PCI bus, whose bytes `State.access` adds: it reads SDRAM and boot ROM,
and writes SDRAM and the window (R945); any other access is an IBUS bus error (R165, R537; for addresses other than ROM DEDUCED,
assumption log 65). -/
def State.port (s : State) : Port where
  byte a :=
    match s.region (masterFold a) with
    | .sdram => some (s.landedByte (masterFold a))
    | .rom => some (s.landedByte (masterFold a))
    | _ => none
  writable a := s.region (masterFold a) == .sdram || inWindow a

/-- The words of the window that a bus master's read of the addresses `l`, in rising order, touches are read on the PCI bus (R945,
R949, R950), whole words as on the internal bus (R165): the bytes that come, by the master's addresses; none where the controller has
answered 'retry' to a delayed read. -/
def State.readForMaster (s : State) (l : List Nat) : Option (List Host.Cell) × State :=
  match l.filter inWindow with
  | [] => (some [], s)
  | a :: rest =>
    let start := masterFold a / 4 * 4
    let n := (a % 4 + rest.length + 4) / 4 * 4
    if s.retriesRead start n then (none, s.latchRead start n)
    else
      let r := s.readWindow start n
      (some (bytesAt a ((List.range (rest.length + 1)).map fun i => BitVec.ofNat 8 (r.1 / 256 ^ (a % 4 + i)))), r.2)

/-- A list of bytes with the byte at `a` replaced. -/
def patchCells (a : Nat) (b : Byte) (l : List Host.Cell) : List Host.Cell := l.map fun c => if c.1 = a then (a, b) else c

/-- The oldest posted write over address `a` comes after a bus master's write there: none if there is no such write. -/
def patchPosted (a : Nat) (b : Byte) : List PostedWrite → Option (List PostedWrite)
  | [] => none
  | .memory r :: rest =>
    if (r.lookup a).isSome then some (.memory (patchCells a b r) :: rest) else (patchPosted a b rest).map (.memory r :: ·)
  | w :: rest => (patchPosted a b rest).map (w :: ·)

/-- A bus master stores a byte at `a`. A CPU write of the same byte that has not landed yet lands on top of it. -/
def State.masterByte (s : State) (a : Nat) (b : Byte) : State :=
  if (s.writeFifo.lookup a).isSome then { s with writeFifo := patchCells a b s.writeFifo }
  else
    match patchPosted a b s.posted with
    | some ws => { s with posted := ws }
    | none => { s with mem := s.mem.setByte a b }

/-- The runs of bytes at consecutive addresses in a list of them. -/
def byteRuns : List Host.Cell → List (Nat × List Byte)
  | [] => []
  | (a, b) :: rest =>
    match byteRuns rest with
    | (a', bs) :: runs => if a' = a + 1 then (a, b :: bs) :: runs else (a, [b]) :: (a', bs) :: runs
    | [] => [(a, [b])]

/-- The number that the bytes make up, the first one least significant. -/
def bytesValue (bs : List Byte) : Nat := bs.foldr (fun b v => b.toNat + 256 * v) 0

/-- A byte that a bus master stores at `a` reaches SDRAM, if `a` is there. -/
def State.storeByte (s : State) (c : Host.Cell) : State :=
  if s.region (masterFold c.1) = .sdram then s.masterByte (masterFold c.1) c.2 else s

/-- Bytes that a bus master stores in the window, at consecutive addresses, reach the PCI bus as one transfer (R945, R947). -/
def State.storeRun (s : State) (run : Nat × List Byte) : State := s.writeWindow run.1 run.2.length (bytesValue run.2)

/-- The bytes that a bus master stores (R165, R537, R945): those at addresses it may write. A burst that leaves the window ends at its
boundary (R947). -/
def State.dmaStore (s : State) (bytes : List Host.Cell) : State :=
  let window := (bytes.filter fun c => inWindow c.1).map fun c => (masterFold c.1, c.2)
  (byteRuns window).foldl State.storeRun
    (bytes.foldl State.storeByte (s.checkMaster (bytes.map Prod.fst)))

/-- One access of a block as bus master (R165): what it reads, what the block does then (`put` stores the block), and what it
stores. Of an access that is answered with 'retry' (R949) the block repeats the read later, with an event of its own. -/
def State.access {σ : Type} (s : State) (put : State → σ → State) (d : DmaStep σ) : State :=
  let span := (List.range d.count).map (d.addr + ·)
  match s.readForMaster span with
  | (none, t) => t
  | (some cells, t) =>
    let t := t.checkMaster span
    let r := d.next (t.port.over cells)
    (put t r.1).dmaStore r.2

/-! ### The agents -/

/-- A block acts: its clock runs and it has not answered a request to become idle (R512, R513). -/
def State.runs (s : State) (b : Block) : Bool := !s.syscon.stopped b && !s.syscon.held b

/-- A block may use the internal bus: the arbiter is enabled and the block acts (R503, R512). -/
def State.granted (s : State) (b : Block) : Bool := s.syscon.iaen && s.runs b

/-- An action of the ATM firmware or of its UTOPIA interface (R602, R681). -/
def State.atmEvent (s : State) (e : AtmEvent) : State :=
  s.access (fun s d => { s with atm := d }) (s.atm.event s.syscon.umint (s.runs .atm) (s.granted .atm) e)

/-- An action of the USB host (R881). -/
def State.usbEvent (s : State) (e : UsbEvent) : State :=
  s.access (fun s d => { s with usb := d }) (s.usb.event (s.runs .usb) (s.granted .usb) e)

/-- An action of Ethernet controller #1 (R781). -/
def State.eth1Event (s : State) (e : EthEvent) : State :=
  if s.runs .eth1 then s.access (fun s d => { s with eth1 := d }) (s.eth1.event (s.granted .eth1) e) else s

/-- An action of Ethernet controller #2 (R781). -/
def State.eth2Event (s : State) (e : EthEvent) : State :=
  if s.runs .eth2 then s.access (fun s d => { s with eth2 := d }) (s.eth2.event (s.granted .eth2) e) else s

/-- The PCI event can happen: the level of a pin and the answers that the bus will give need no clock; an edge of PSERI_B is seen while
the clock runs; anything else happens while the block acts. -/
def State.pciActs (s : State) (e : PciEvent) : Bool :=
  match e with
  | .reply _ => true
  | .phint _ => true
  | .serr => !s.syscon.stopped .pci
  | _ => s.runs .pci

/-- The PCI controller looks at its pin PHINT_B, unless its clock is stopped (R927, R1203). -/
def State.samplePhint (s : State) : State :=
  if s.syscon.stopped .pci then s else { s with pci := s.pci.sampleInterrupt s.board.nic }

/-- An action of the PCI bus on the block itself (R976). -/
def State.pciEvent (s : State) (e : PciEvent) : State :=
  (if s.pciActs e then { s with pci := s.pci.event s.board.nic (s.granted .pci) e } else s).samplePhint

/-- A device accepts the access of a PCI master: it is stored. Anything else is an internal bus error that leaves the device as it is and
sets no bit of S_NSR: a reserved offset, and a size that the register does not take, also where it is a read-clear one, which then is not
cleared (R164, R604, R704 and R804 speak of the CPU's accesses; DESIGN CHOICE, assumption log 46). -/
def acceptReply {σ : Type} (put : σ → State) (r : DevReply σ) : Option State :=
  if r.status = .ok then some (put r.dev) else none

/-- A read by a PCI master at the internal address `a` (R951, R976): memory, or the registers of a block with the side
effect of reading them. `none` is an internal bus error: an address no bus master may use (R165). -/
def State.masterRead (s : State) (a : Nat) (be : Lanes) : Option State :=
  match s.region a with
  | .sdram => some s
  | .rom => some s
  | .block b =>
    if s.syscon.stopped b then none
    else match b with
    | .usb => acceptReply (fun d => { s with usb := d }) (s.usb.read (blockOffset .usb a) be)
    | .eth1 => acceptReply (fun d => { s with eth1 := d }) (s.eth1.read (blockOffset .eth1 a) be)
    | .atm => acceptReply (fun d => { s with atm := d }) (s.atm.read (blockOffset .atm a) be)
    | .eth2 => acceptReply (fun d => { s with eth2 := d }) (s.eth2.read (blockOffset .eth2 a) be)
    | .uart => none
    | .pci => none
  | _ => none

/-- The reads on the internal bus for a PCI master's read of `count` words from `a` on (R955, R956), and whether all of them have been
made: they end with the first internal bus error (R960). The first word has the byte enables `be`. Each word is a single read, so that
registers see no burst and IRERR is not set; nor does a reserved offset set CBERR: R804 gives both to the CPU's accesses (DESIGN CHOICE,
assumption log 46). -/
def State.masterReads (count a : Nat) (be : Lanes) (s : State) : Bool × State :=
  match count with
  | 0 => (true, s)
  | n + 1 =>
    match s.masterRead a be with
    | none => (false, (s.checkMaster [a]).pciEvent (.busError false))
    | some t => t.masterReads n (a + 4) Lanes.word

/-- The command reads memory (R952). -/
def PciCommand.readsMemory : PciCommand → Bool
  | .memRead => true
  | .memReadLine => true
  | .memReadMultiple => true
  | _ => false

/-- The words from the offset to the end of the 4-Mbyte region that P_IBBA selects: no access goes across it (R951, R955). -/
def wordsToBoundary (off : BitVec 22) : Nat := 0x10_0000 - off.toNat / 4

/-- The bytes of the lanes `be` of a word at `a`. -/
def laneCells (a : Nat) (be : Lanes) (v : Word) : List Host.Cell :=
  ((List.range 4).filter fun i => be.getLsbD i).map fun i => (a + i, byteOf i v)

/-- A write by a PCI master at the internal address `a` (R951, R976). -/
def State.masterWrite (s : State) (a : Nat) (be : Lanes) (v : Word) : Option State :=
  match s.region a with
  | .sdram => some (s.dmaStore (laneCells (a / 4 * 4) be v))
  | .block b =>
    if s.syscon.stopped b then none
    else match b with
    | .usb => acceptReply (fun d => { s with usb := d }) (s.usb.write (blockOffset .usb a) be v)
    | .eth1 => acceptReply (fun d => { s with eth1 := d }) (s.eth1.write (blockOffset .eth1 a) be v)
    | .atm => acceptReply (fun d => { s with atm := d }) (s.atm.write (blockOffset .atm a) be v)
    | .eth2 => acceptReply (fun d => { s with eth2 := d }) (s.eth2.write (blockOffset .eth2 a) be v)
    | .uart => none
    | .pci => none
  | _ => none

/-- A PCI master may access the internal bus (R976): INITD, memory access enable and S_GMR.IAEN. -/
def State.masterAllowed (s : State) : Bool := s.granted .pci && s.pci.initDone && s.pci.memAccess

/-- The internal address of the access window (R951): P_IBBA and the offset. -/
def State.masterAddress (s : State) (off : BitVec 22) : Nat :=
  foldAddress (merge 0xFFC0_0000 (off.zeroExtend 32) s.pci.ibba)

/-- The words of a PCI master's read are read on the internal bus (R955, R956); those of a delayed read wait in the FIFO, unless an
internal bus error has ended it (R960). -/
def State.prefetch (s : State) (off : BitVec 22) (be : Lanes) (command : PciCommand) : State :=
  let r := s.masterReads (min (s.pci.prefetchWords command) (wordsToBoundary off)) (s.masterAddress off) be
  if r.1 && !s.pci.bcnt.getLsbD 3 then { r.2 with pci := { r.2.pci with prefetched := some (off, command) } } else r.2

/-- A PCI master reads through the access window (R955, R956, R976). While the data of a delayed read wait in the FIFO, the same read is
given them, and another delayed read is answered with 'retry' (DESIGN CHOICE, assumption log 46). -/
def State.windowReadBy (s : State) (off : BitVec 22) (be : Lanes) (command : PciCommand) : State :=
  if s.masterAllowed && command.readsMemory then
    match if s.pci.bcnt.getLsbD 3 then none else s.pci.prefetched with
    | none => s.prefetch off be command
    | some waiting => if waiting = (off, command) then { s with pci := { s.pci with prefetched := none } } else s
  else s

/-- A PCI master writes through the access window (R953, R954, R976); an internal bus error is reported (R960). -/
def State.windowWriteBy (s : State) (off : BitVec 22) (be : Lanes) (v : Word) : State :=
  let a := s.masterAddress off
  if s.masterAllowed then (s.masterWrite a be v).getD ((s.checkMaster [a]).pciEvent (.busError true)) else s

/-- The event is an answer of the ATM firmware, which gives none before it has been fetched, while its clock is stopped, or once it hangs
(R511, R512, R612, U44). -/
def SysEvent.fromAtm : SysEvent → Bool
  | .ready b => b == .atm
  | .idle b v => b == .atm && v
  | _ => false

/-- One event (R1117, D4, D6). -/
def State.event (s : State) (e : Event) : State :=
  match e with
  | .reset => { s with syscon := { s.syscon with resetRequest := true } }
  | .sys e =>
    if e.fromAtm && (!s.atm.running || s.syscon.stopped .atm) then s else { s with syscon := s.syscon.event e }
  | .uart e => { s with uart := s.uart.event e }
  | .microWire => { s.draw.2 with microWire := s.microWire.finish (s.draw.1.extractLsb' 0 16) }
  | .usb e => s.usbEvent e
  | .eth1 e => s.eth1Event e
  | .eth2 e => s.eth2Event e
  | .atm e => s.atmEvent e
  | .pci e => s.pciEvent e
  | .pciMasterRead off be command => s.windowReadBy off be command
  | .pciMasterWrite off be v => s.windowWriteBy off be v

/-- The events that reach the chip before the next step, in order. -/
def State.takeInputs (s : State) : State :=
  match s.inputs with
  | [] => s
  | now :: later => now.foldl (fun s e => (s.event e).capture) { s with inputs := later }

/-! ### Time -/

/-- `n` pipeline cycles of Count (R37, R39, R1160): every increment that makes it equal to Compare sets IP7. -/
def State.countTime (s : State) (n : Nat) : State :=
  if s.power = .hibernate then s
  else
    let d := max 1 s.board.countDiv
    let k := (s.countPre + n) / d
    { s with
      countPre := (s.countPre + n) % d
      cp0 := { s.cp0 with
        count := s.cp0.count + BitVec.ofNat 32 k
        cause := if (s.cp0.compare - s.cp0.count - 1).toNat < k then setBit s.cp0.cause 15 true else s.cp0.cause } }

/-- The IBUS clocks in `n` CPU clocks, and the thirds of one that are left over (R572): both clocks are made from six times SCLK, the
IBUS's by the divider 1/3 and the CPU's by 1/3 with CLKSL = 1, by 1/2 with CLKSL = 0. -/
def State.ibusClocks (s : State) (n : Nat) : Nat × Nat :=
  if s.board.clksl then (n, s.ibusPre) else ((s.ibusPre + 2 * n) / 3, (s.ibusPre + 2 * n) % 3)

/-- `n` CPU clocks: they are counted by the timers and by the watchdog (R572, R1014, R1015, R564), the IBUS clocks in them by A_TSR
(R615), which stands still while the ATM block's clock is stopped (R1203). -/
def State.deviceTime (s : State) (n : Nat) : State :=
  let t := s.timers.tick n s.steps
  let w := s.syscon.watchdog n
  let bus := s.ibusClocks n
  { s with
    timers := t.1
    syscon := { w.1 with isr := w.1.isr ||| t.2, resetRequest := w.1.resetRequest || w.2 }
    atm := s.atm.tick (if s.syscon.stopped .atm then 0 else bus.1)
    ibusPre := bus.2 }

/-- The time of one step: at least one cycle (D47). -/
def State.passTime (s : State) : State :=
  let n := 1 + Config.stepCycles s.steps
  { (s.countTime n).deviceTime n with steps := s.steps + 1 }

/-! ### Wake-up -/

/-- Standby and Suspend end on any interrupt line, the timer interrupt or an NMI, masked or not (R463, D38). -/
def State.wake (s : State) : State :=
  if (s.power = .standby ∨ s.power = .suspend) ∧ (s.nmiPending ∨ (s.causeNow &&& 0xFC00) ≠ 0) then
    { s with power := .fullspeed }
  else s

/-- Posted writes land between two instructions; how many, and whether the write FIFO drains, is open (R162, R515, D18;
assumption log 66). The edge detectors look at what the instruction has left first. -/
def State.drain (s : State) : State :=
  let s := s.capture.landWrites (Config.postedWritesLanding s.steps)
  { s with writeFifo := if Config.writeFifoDrains s.steps then [] else s.writeFifo }

/-- All that happens between two instructions. -/
def State.settle (s : State) : State := s.drain.capture.takeInputs.samplePhint.passTime.capture.wake

end Sys2Proof.Machine
end

