-- ==== Sys2Proof/Machine/Cycle.lean ====
section
/-! DEFINITION. The parts of a step (spec/60_exceptions.md R1117): the events at an instruction boundary, the fetch, the
instruction, and then what happens between instructions. -/
namespace Sys2Proof.Machine

/-- Execute a fetched word: a word that no row of the opcode table describes raises Reserved Instruction, inside COP0
after the usability test (R184–R188, D26). -/
def State.runWord (s : State) (w : Word) : Out :=
  match decode w with
  | .ok i => exec i s
  | .error .reserved => s.trap .ri
  | .error .reservedCop0 => s.needCop0 fun s => s.trap .ri

/-- The rest of the fetch, once its address is legal: an enabled interrupt comes before the bus error (R118, R1117). -/
def State.fetchAndRun (s : State) (t : Target) : Out :=
  if s.interruptEnabled then s.trap .int
  else match s.fetchWord t with
  | .ok w s => s.runWord w
  | .raise e s => s.trap e
  | .fault f => .fault f

/-- Config.EP, AD or IB holds a value other than 0, the only permitted one (R51, U14). -/
def State.badConfig (s : State) : Bool := (s.cp0.config &&& 0x0F80_0020) != 0

/-- Status.KSU is 11 where it selects the mode (R45, U13). -/
def State.badMode (s : State) : Bool := s.ksu == 3 && !s.exl && !s.erl

/-- An instruction from the program counter on: the fetch address is checked first (R1117). -/
def State.runInstruction (s : State) : Out :=
  if s.badMode then .fault .undefinedMode
  else if s.badConfig then .fault .prohibitedConfig
  else match s.fetchTarget with
  | .ok t s => s.fetchAndRun t
  | .raise e s => s.trap e
  | .fault f => .fault f

/-- What a step does first: a cold reset, nothing while the core is stopped, an NMI, a deferred Watch exception, or an
instruction (R1117, R463, R1152). -/
def State.boundary (s : State) : Out :=
  if s.syscon.resetRequest then .next s.coldReset
  else if s.power ≠ .fullspeed then .next s
  else if s.nmiPending then .next s.takeNmi
  else if s.watchPending && !s.exl then { s with watchPending := false }.trap .watch
  else s.runInstruction

/-- What happens between instructions follows every step that goes on. -/
def settleOut (o : Out) : Out :=
  match o with
  | .next s => .next s.settle
  | .fault f => .fault f
  | .refused r => .refused r

/-- Store the four bytes of an instruction word where a fetch from `t` reads them: the line of the instruction cache
that the fetch hits, otherwise memory. -/
def State.placeWord (s : State) (t : Target) (w : Nat) : State :=
  let l := s.iLine (iIndex s.pc)
  if t.cached && l.hit t.pa then
    s.setILine (iIndex s.pc) { l with data := lineStore l.data (s.pc.extractLsb' 0 4).toNat 4 (BitVec.ofNat 64 w) }
  else { s with mem := s.mem.write (foldAddress t.pa) 4 w }

end Sys2Proof.Machine
end

