-- ==== Sys2Proof/Machine/Step.lean ====
section
/-! DEFINITION. One step of the machine, and the placing of an instruction where the next step fetches it. -/
namespace Sys2Proof.Machine

/-- One step of the machine. -/
def step (s : State) : Host.Outcome State Fault Refusal := settleOut s.boundary

/-- The state with the instruction word `w` stored where the next step fetches: boot ROM and SDRAM contents come from
outside the chip. -/
def State.withFetchWord (s : State) (nbits w : Nat) : State :=
  match s.fetchTarget with
  | .ok t _ => s.placeWord t (w % 2 ^ nbits)
  | _ => s

end Sys2Proof.Machine
end

