-- ==== Sys2Proof/Safety.lean ====
section
/-! DEFINITION. What a well-kept state is, and what a run is: the invariants that claims speak of. -/
namespace Sys2Proof.Machine

/-- Main memory is in its canonical form. -/
def State.memoryCanonical (s : State) : Bool := s.mem.wf

/-- Every key of a sparse map is below `n`. -/
def cellsBelow {α : Type} (n : Nat) (l : List (Nat × α)) : Bool := l.all fun c => decide (c.1 < n)

/-- The caches are in canonical form and list only lines that exist: 512 data and 1024 instruction cache lines (R70). -/
def State.cachesCanonical (s : State) : Bool :=
  cellWf {} 0 s.dcache && cellsBelow 512 s.dcache && cellWf {} 0 s.icache && cellsBelow 1024 s.icache

/-- The work RAM and the lookup table of the ATM block are in canonical form (R681). -/
def State.atmCanonical (s : State) : Bool := cellWf 0 0 s.atm.workRam && cellWf 0 0 s.atm.lookup

/-- Every sparse map of the state is in its canonical form: equal contents are equal data. -/
def State.canonical (s : State) : Bool := s.memoryCanonical && s.cachesCanonical && s.atmCanonical

/-- The bits of the CP0 registers that are reserved or that another field of the state holds are 0 (R30–R62). -/
def Cp0.reservedZero (p : Cp0) : Bool :=
  (p.index &&& 0x7FFF_FFE0) == 0 && (p.entryLo0 &&& 0xFFFF_FFFF_F000_0000) == 0 &&
  (p.entryLo1 &&& 0xFFFF_FFFF_F000_0000) == 0 && (p.context &&& 0xF) == 0 && (p.pageMask &&& 0xFFF8_07FF) == 0 &&
  (p.entryHi &&& 0x3FFF_FF00_0000_0700) == 0 && (p.status &&& 0xED28_0000) == 0 && (p.cause &&& 0x4FFF_7C83) == 0 &&
  (p.config &&& 0xF07F_FFD8) == 0 && (p.watchLo &&& 0x4) == 0 && (p.xcontext &&& 0xF) == 0 &&
  (p.perr &&& 0xFFFF_FF00) == 0 && (p.tagLo &&& 0x7F) == 0

/-- Random stays between Wired and 31 (R31). -/
def Cp0.randomBounded (p : Cp0) : Bool := decide (p.wired ≤ p.random)

/-- General register 0 holds 0 (R21). -/
def State.zeroRegister (s : State) : Bool := s.gpr[0] == 0

/-- A predicate that every step keeps. -/
def Preserved (p : State → Bool) : Prop := ∀ s t, p s = true → step s = .next t → p t = true

/-! ### Frames -/

/-- `t` differs from `s` at most in the general registers, HI, LO, the program counter, the pending branch, the CP0
registers, memory and the count of free values drawn: every other field of the state is the same. -/
def SameOutsideCore (s t : State) : Prop :=
  t = { s with
    gpr := t.gpr, hi := t.hi, lo := t.lo, pc := t.pc, slot := t.slot, cp0 := t.cp0, mem := t.mem, free := t.free }

/-- The same, but for the contents of the caches. -/
def SameBesidesCaches (s t : State) : Prop := SameOutsideCore { s with icache := t.icache, dcache := t.dcache } t

/-- Every byte of memory reads the same in both states. -/
def SameMemory (s t : State) : Prop := ∀ a, t.mem.byte a = s.mem.byte a

/-- Every general register reads the same in both states. -/
def SameRegisters (s t : State) : Prop := ∀ q, t.getReg q = s.getReg q

/-- An instruction that is no jump has completed: execution goes on behind it, or at the target of the branch whose delay
slot it stands in; of the CP0 registers only Random has changed. -/
structure Retired (s t : State) : Prop where
  pc : t.pc = s.nextPc
  slot : t.slot = .normal
  cp0 : t.cp0 = { s.cp0 with random := s.cp0.nextRandom }

/-- An instruction has completed and written `v` to general register `r` (nothing for register 0), HI and LO as given, and
nothing else. -/
structure WritesResults (s t : State) (r : Reg) (v hi lo : Dword) : Prop where
  registers : ∀ q, t.getReg q = if q = 0 then 0 else if q = r then v else s.getReg q
  hi : t.hi = hi
  lo : t.lo = lo
  memory : SameMemory s t
  retired : Retired s t
  rest : SameOutsideCore s t

/-- An instruction has completed and written `v` to general register `r`, and nothing else. -/
def WritesOnly (s t : State) (r : Reg) (v : Dword) : Prop := WritesResults s t r v s.hi s.lo ∧ t.free = s.free

/-- An instruction has completed and written HI and LO, and nothing else. -/
def WritesHiLo (s t : State) (hi lo : Dword) : Prop := WritesResults s t 0 0 hi lo ∧ t.free = s.free

/-- An instruction has completed and has had no effect. -/
def WritesNothing (s t : State) : Prop := WritesOnly s t 0 0

/-- A store has completed: the `n` bytes of `v` stand at the physical address `a`, the least significant first, the write is
posted behind the others, and nothing else has changed. -/
structure StoresOnly (s t : State) (a n v : Nat) : Prop where
  inside : ∀ i, i < n → t.mem.byte (a + i) = BitVec.ofNat 8 (v / 256 ^ i)
  outside : ∀ c, c < a ∨ a + n ≤ c → t.mem.byte c = s.mem.byte c
  registers : SameRegisters s t
  hi : t.hi = s.hi
  lo : t.lo = s.lo
  free : t.free = s.free
  retired : Retired s t
  posted : t.posted = s.posted ++ [.memory (s.mem.cells a n)]
  rest : SameOutsideCore { s with posted := t.posted } t

/-- A jump or branch has been executed: the next instruction is at `pc`, standing in `slot`; of the CP0 registers only
Random has changed, and nothing else but the general registers. -/
structure Branches (s t : State) (pc : Dword) (slot : Slot) : Prop where
  pc : t.pc = pc
  slot : t.slot = slot
  cp0 : t.cp0 = { s.cp0 with random := s.cp0.nextRandom }
  hi : t.hi = s.hi
  lo : t.lo = s.lo
  free : t.free = s.free
  memory : SameMemory s t
  rest : SameOutsideCore s t

/-- A branch that writes no register: into its delay slot with the target pending if it is taken; if not, into the slot
without a target, or past it if it is a branch-likely. -/
def BranchesTo (s t : State) (taken likely : Bool) (target : Dword) : Prop :=
  SameRegisters s t ∧
  (if taken then Branches s t (s.pc + 4) (.delay (some target))
   else if likely then Branches s t (s.pc + 8) .normal
   else Branches s t (s.pc + 4) (.delay none))

/-- The registers of `s` with the link address in r31. -/
def LinksR31 (s t : State) : Prop := ∀ q, t.getReg q = if q = 0 then 0 else if q = 31 then s.pc + 8 else s.getReg q

/-- A data reference to `va` that all checks allow and that goes, uncached, to SDRAM: `a` is the physical address of byte `lo` of
its doubleword, `u` the state after the checks and after the posted writes that the reference waits for: a load for those of
the memory side, a store for room in the command buffer. -/
def RefersToSdram (s : State) (write : Bool) (align : Nat) (va : Dword) (lo : Nat) (a : Nat) (u : State) : Prop :=
  ∃ pa v, s.dataTarget write align va = .ok { pa := pa, cached := false } v ∧ a = foldAddress (inDoubleword pa lo) ∧
    if write then u = v.room ∧ v.regionAhead a = .sdram else u = v.await .memory ∧ u.region a = .sdram

/-- A data reference to `va` that all checks allow and that goes through the data cache; `u` is the state after the checks and
after the refill that a miss asks for: the line of `va` hits. -/
def ThroughDataCache (s : State) (write : Bool) (align : Nat) (va : Dword) (u : State) : Prop :=
  ∃ pa v, s.dataTarget write align va = .ok { pa := pa, cached := true } v ∧ v.fillD va pa = .ok () u

/-- The loads that refer to a multiple of `n`; those of a doubleword, and LWU, only where 64-bit operations are enabled. -/
def loadForms (ops64 : Bool) (rt base : Reg) (offset : Half) (n : Nat) : List Instr :=
  match n with
  | 1 => [.lb rt base offset, .lbu rt base offset, .lwl rt base offset, .lwr rt base offset] ++
      if ops64 then [.ldl rt base offset, .ldr rt base offset] else []
  | 2 => [.lh rt base offset, .lhu rt base offset]
  | 4 => .lw rt base offset :: if ops64 then [.lwu rt base offset] else []
  | 8 => if ops64 then [.ld rt base offset] else []
  | _ => []

/-- The stores that refer to a multiple of `n`; those of a doubleword only where 64-bit operations are enabled. -/
def storeForms (ops64 : Bool) (rt base : Reg) (offset : Half) (n : Nat) : List Instr :=
  match n with
  | 1 => [.sb rt base offset, .swl rt base offset, .swr rt base offset] ++
      if ops64 then [.sdl rt base offset, .sdr rt base offset] else []
  | 2 => [.sh rt base offset]
  | 4 => [.sw rt base offset]
  | 8 => if ops64 then [.sd rt base offset] else []
  | _ => []

/-- The next step executes an instruction unless its fetch raises an exception: no event comes first, and the mode and the
configuration are defined. -/
structure AtInstruction (s : State) : Prop where
  reset : s.syscon.resetRequest = false
  power : s.power = .fullspeed
  nmi : s.nmiPending = false
  watch : s.watchPending = false ∨ s.exl = true
  mode : s.badMode = false
  config : s.badConfig = false

/-- Byte `i` of a doubleword. -/
def dwordByte (v : Dword) (i : Nat) : Byte := v.extractLsb' (8 * i) 8

end Sys2Proof.Machine
end

