-- ==== Sys2Proof/WellFormed.lean ====
section
/-! DEFINITION. Well-formed instructions: the operand combinations that the spec gives a defined result on every path. The
word of an ill-formed one still decodes and still runs; what it does is the meaning's matter. -/
namespace Sys2Proof

/-- The operation codes of CACHE that R441 lists. -/
def cacheOpDefined (op : BitVec 5) : Bool :=
  [0, 1, 4, 5, 8, 9, 13, 16, 17, 20, 21, 24, 25].contains op.toNat

/-- The well-formedness check: JALR needs rd ≠ rs (R373), the branches with link must not test r31 (R363), and CACHE needs
an operation of the table (R441, R451). -/
def Instr.wf : Instr → Bool
  | .lb _ _ _ => true
  | .lbu _ _ _ => true
  | .lh _ _ _ => true
  | .lhu _ _ _ => true
  | .lw _ _ _ => true
  | .lwl _ _ _ => true
  | .lwr _ _ _ => true
  | .lwu _ _ _ => true
  | .ld _ _ _ => true
  | .ldl _ _ _ => true
  | .ldr _ _ _ => true
  | .sb _ _ _ => true
  | .sh _ _ _ => true
  | .sw _ _ _ => true
  | .swl _ _ _ => true
  | .swr _ _ _ => true
  | .sd _ _ _ => true
  | .sdl _ _ _ => true
  | .sdr _ _ _ => true
  | .addi _ _ _ => true
  | .addiu _ _ _ => true
  | .slti _ _ _ => true
  | .sltiu _ _ _ => true
  | .andi _ _ _ => true
  | .ori _ _ _ => true
  | .xori _ _ _ => true
  | .lui _ _ => true
  | .daddi _ _ _ => true
  | .daddiu _ _ _ => true
  | .add _ _ _ => true
  | .addu _ _ _ => true
  | .sub _ _ _ => true
  | .subu _ _ _ => true
  | .and _ _ _ => true
  | .or _ _ _ => true
  | .xor _ _ _ => true
  | .nor _ _ _ => true
  | .slt _ _ _ => true
  | .sltu _ _ _ => true
  | .dadd _ _ _ => true
  | .daddu _ _ _ => true
  | .dsub _ _ _ => true
  | .dsubu _ _ _ => true
  | .sll _ _ _ => true
  | .srl _ _ _ => true
  | .sra _ _ _ => true
  | .sllv _ _ _ => true
  | .srlv _ _ _ => true
  | .srav _ _ _ => true
  | .dsll _ _ _ => true
  | .dsrl _ _ _ => true
  | .dsra _ _ _ => true
  | .dsllv _ _ _ => true
  | .dsrlv _ _ _ => true
  | .dsrav _ _ _ => true
  | .dsll32 _ _ _ => true
  | .dsrl32 _ _ _ => true
  | .dsra32 _ _ _ => true
  | .mult _ _ => true
  | .multu _ _ => true
  | .div _ _ => true
  | .divu _ _ => true
  | .dmult _ _ => true
  | .dmultu _ _ => true
  | .ddiv _ _ => true
  | .ddivu _ _ => true
  | .mfhi _ => true
  | .mthi _ => true
  | .mflo _ => true
  | .mtlo _ => true
  | .macc _ _ _ => true
  | .maccu _ _ _ => true
  | .macchi _ _ _ => true
  | .macchiu _ _ _ => true
  | .maccs _ _ _ => true
  | .maccus _ _ _ => true
  | .macchis _ _ _ => true
  | .macchius _ _ _ => true
  | .dmacc _ _ _ => true
  | .dmaccu _ _ _ => true
  | .dmacchi _ _ _ => true
  | .dmacchiu _ _ _ => true
  | .dmaccs _ _ _ => true
  | .dmaccus _ _ _ => true
  | .dmacchis _ _ _ => true
  | .dmacchius _ _ _ => true
  | .j _ => true
  | .jal _ => true
  | .jalx _ => true
  | .jr _ => true
  | .jalr rd rs => rd != rs
  | .beq _ _ _ => true
  | .bne _ _ _ => true
  | .blez _ _ => true
  | .bgtz _ _ => true
  | .beql _ _ _ => true
  | .bnel _ _ _ => true
  | .blezl _ _ => true
  | .bgtzl _ _ => true
  | .bltz _ _ => true
  | .bgez _ _ => true
  | .bltzl _ _ => true
  | .bgezl _ _ => true
  | .bltzal rs _ => rs != 31
  | .bgezal rs _ => rs != 31
  | .bltzall rs _ => rs != 31
  | .bgezall rs _ => rs != 31
  | .bc0f _ => true
  | .bc0t _ => true
  | .bc0fl _ => true
  | .bc0tl _ => true
  | .syscall _ => true
  | .brk _ => true
  | .sync => true
  | .tge _ _ _ => true
  | .tgeu _ _ _ => true
  | .tlt _ _ _ => true
  | .tltu _ _ _ => true
  | .teq _ _ _ => true
  | .tne _ _ _ => true
  | .tgei _ _ => true
  | .tgeiu _ _ => true
  | .tlti _ _ => true
  | .tltiu _ _ => true
  | .teqi _ _ => true
  | .tnei _ _ => true
  | .mfc0 _ _ => true
  | .mtc0 _ _ => true
  | .dmfc0 _ _ => true
  | .dmtc0 _ _ => true
  | .tlbr => true
  | .tlbwi => true
  | .tlbwr => true
  | .tlbp => true
  | .eret => true
  | .standby => true
  | .suspend => true
  | .hibernate => true
  | .cache op _ _ => cacheOpDefined op
  | .ll _ _ _ => true
  | .lld _ _ _ => true
  | .sc _ _ _ => true
  | .scd _ _ _ => true
  | .cop1 _ => true
  | .lwc1 _ _ _ => true
  | .ldc1 _ _ _ => true
  | .swc1 _ _ _ => true
  | .sdc1 _ _ _ => true
  | .cop2 _ => true
  | .lwc2 _ _ _ => true
  | .ldc2 _ _ _ => true
  | .swc2 _ _ _ => true
  | .sdc2 _ _ _ => true

end Sys2Proof
end

