-- ==== Sys2Proof/Certificates/Slice0/Obligations.lean ====
section
/-! DEFINITION. The statements for the provers. -/
open Sys2Proof Sys2Proof.Machine

/-! ### The step, decoding and encoding -/

/-- A step runs the decoded instruction (R1117): with no event at the boundary, the mode and the configuration defined, the
fetch address legal and no interrupt enabled, the step is `exec` of the instruction that the fetched word decodes to, followed by
what happens between instructions. `u` is the state after the fetch. A word that no row of the opcode table describes raises Reserved
Instruction (R1147); one of coprocessor 0 does so after the usability test (R187, R188), which the spec's decision D26 fixes for what the
manual leaves undefined (DESIGN CHOICE, assumption log 19). -/
def Obligations.StepRunsDecodedInstruction : Prop :=
  ∀ (s u : State) (t : Target) (w : Word),
    s.syscon.resetRequest = false → s.power = .fullspeed → s.nmiPending = false →
    (s.watchPending = false ∨ s.exl = true) → s.badMode = false → s.badConfig = false →
    s.fetchTarget = .ok t s → s.interruptEnabled = false → s.fetchWord t = .ok w u →
    (∀ i, decode w = .ok i → step s = settleOut (exec i u)) ∧
    (decode w = .error .reserved → step s = .next (u.takeException .ri).settle) ∧
    (decode w = .error .reservedCop0 → u.cop0Usable = true → step s = .next (u.takeException .ri).settle) ∧
    (decode w = .error .reservedCop0 → u.cop0Usable = false → step s = .next (u.takeException (.cpu 0)).settle)

/-- Instruction fetch (R118, R131, R135, R142, R145, R375), in a canonical state. A program counter that is no multiple of 4 raises
Address Error, one whose translation raises an exception that one, before any interrupt; a read that fails raises Instruction Bus Error,
after the interrupts. A cached fetch that hits takes the word of the line; on a miss the 16 bytes of SDRAM around the address fill the
line, Valid, and every other line stays; a refill from outside the boot ROM's configured size leaves it Invalid. An uncached fetch takes
the word in SDRAM or boot ROM, and elsewhere reads as `UncachedReadsElsewhere` says. Behind the slot of a taken branch the word at pc +
4 is read and discarded (R164; that it is one word: DEDUCED, assumption log 67): what its read does stays, whether it is answered or
fails; no exception of it is raised, and where its translation raises one nothing changes, also where several TLB entries match (DESIGN
CHOICE, assumption log 67). Behind any other instruction nothing is read. -/
def Obligations.InstructionFetch : Prop :=
  (∀ s : State, AtInstruction s →
    (s.pc.toNat % 4 ≠ 0 → step s = .next (s.takeException (.addressError false s.pc)).settle) ∧
    (s.pc.toNat % 4 = 0 → ∀ e u, s.translate false s.pc = .raise e u → step s = .next (u.takeException e).settle) ∧
    (s.interruptEnabled = false → ∀ t e u, s.fetchTarget = .ok t s → s.readInstruction s.pc t = .raise e u →
      step s = .next (u.takeException e).settle)) ∧
  (∀ (s : State) (va : Dword) (pa : PAddr), s.canonical = true →
    let i := iIndex va
    let l := s.iLine i
    let o := va.toNat % 16
    let u := s.await .memory
    let src := foldAddress (lineBase pa)
    let reads (cached : Bool) (w : Word) (t : State) : Prop :=
      ∃ d, s.readInstruction va { pa := pa, cached := cached } = .ok d t ∧ d.setWidth 32 = w
    let fails (cached : Bool) (t : State) : Prop := s.readInstruction va { pa := pa, cached := cached } = .raise .ibe t
    (l.hit pa = true → reads true (l.data.extractLsb' (8 * o) 32) s) ∧
    (l.hit pa = false → u.region src = .sdram →
      ∃ t, t.iLine i = { data := BitVec.ofNat 128 (s.mem.read src 16), ptag := tagOf pa, v := true } ∧
        (∀ j, j ≠ i → t.iLine j = s.iLine j) ∧ t = { u with icache := t.icache } ∧
        reads true ((t.iLine i).data.extractLsb' (8 * o) 32) t) ∧
    (l.hit pa = false → u.region src = .romOutside →
      ∃ t, fails true t ∧ (t.iLine i).v = false ∧ (∀ j, j ≠ i → t.iLine j = s.iLine j) ∧
        t = { u.nmiCause nsrMAERR with icache := t.icache }) ∧
    ((u.region (foldAddress pa) = .sdram ∨ u.region (foldAddress pa) = .rom) →
      reads false (BitVec.ofNat 32 (s.mem.read (foldAddress pa) 4)) u) ∧
    (u.region (foldAddress pa) = .romOutside → fails false (u.nmiCause nsrMAERR)) ∧
    s.readInstruction va { pa := pa, cached := false } = s.busRead .ibe pa 4) ∧
  (∀ (s u : State) (t : Target) (d : Dword), s.readInstruction s.pc t = .ok d u →
    s.fetchWord t = .ok (d.setWidth 32) u.fetchBehindSlot) ∧
  (∀ s : State,
    ((∀ x, s.slot ≠ .delay (some x)) → s.fetchBehindSlot = s) ∧
    (∀ x, s.slot = .delay (some x) →
      (∀ e u, s.translate false (s.pc + 4) = .raise e u → s.fetchBehindSlot = s) ∧
      (∀ t, s.translate false (s.pc + 4) = .ok t s → ∀ d e u,
        (s.readInstruction (s.pc + 4) t = .ok d u ∨ s.readInstruction (s.pc + 4) t = .raise e u) → s.fetchBehindSlot = u)))

/-- Words written out bit by bit from the encodings of R181 to R191 decode to the instructions they stand for. The function code
011000 of ERET is not the manual's: R187 and R191 take it from general knowledge (PRESUMED, assumption log 21). -/
def Obligations.EncodingsOfTheManualDecode : Prop :=
  decode (0b001001_00100_01000_0000000000000101 : Word) = .ok (.addiu 8 4 5) ∧
  decode (0b100011_11101_01000_1111111111111100 : Word) = .ok (.lw 8 29 0xFFFC) ∧
  decode (0b000000_00100_00101_01000_00000_101000 : Word) = .ok (.macc 8 4 5) ∧
  decode (0b000000_00100_00101_01000_11001_101001 : Word) = .ok (.dmacchius 8 4 5) ∧
  decode (0b000001_00100_10001_0000000000000011 : Word) = .ok (.bgezal 4 3) ∧
  decode (0b010000_00100_01000_01100_00000000000 : Word) = .ok (.mtc0 8 12) ∧
  decode (0b010000_1_0000000000000000000_011000 : Word) = .ok .eret ∧
  decode (0b101111_00100_10101_0000000000010000 : Word) = .ok (.cache 21 4 16)

/-- Decoding an encoded instruction gives it back: no operand bit of any encoding is dropped. -/
def Obligations.DecodeEncodeRoundTrip : Prop := ∀ i : Instr, decode (encode i) = .ok i

/-! ### Invariants of the step -/

/-- Every step keeps every sparse map — memory, both caches, the ATM work RAM and lookup table — canonical, and the caches list only
lines that exist (R70). -/
def Obligations.StepKeepsStateCanonical : Prop := Preserved State.canonical

/-- Every step keeps general register 0 at 0 (R21), Random between Wired and 31 (R31), and the reserved bits of the CP0 registers
at 0 (R30–R62). -/
def Obligations.StepKeepsRegistersLegal : Prop :=
  Preserved fun s => s.zeroRegister && s.cp0.randomBounded && s.cp0.reservedZero

/-- The state after reset satisfies the invariants that every step keeps. -/
def Obligations.ResetSatisfiesInvariants : Prop :=
  State.reset.canonical = true ∧ State.reset.zeroRegister = true ∧ State.reset.cp0.randomBounded = true ∧
  State.reset.cp0.reservedZero = true

/-! ### Reset, exceptions, interrupts -/

/-- What the spec states of the state after reset (R76, R1120, R1202): the reset vector outside a delay slot, Status.BEV and ERL 1 and
SR 0, Kernel mode, Random 31, Wired 0, the fixed fields of Config (IC = 4: DEDUCED, assumption log 63; EC, which the board sets, is
masked out: log 9), the TLB not shut down, Fullspeed mode, and no deferred NMI or Watch exception. -/
def Obligations.ResetState : Prop :=
  State.reset.pc = 0xFFFF_FFFF_BFC0_0000 ∧ State.reset.slot = .normal ∧ State.reset.bev = true ∧ State.reset.erl = true ∧
  State.reset.cp0.status.getLsbD 20 = false ∧ State.reset.mode = .kernel ∧ State.reset.cp0.random = 31 ∧
  State.reset.cp0.wired = 0 ∧ State.reset.configNow &&& 0x007F_FFF8 = 0x0002_58C0 ∧ State.reset.tlbShutdown = false ∧
  State.reset.power = .fullspeed ∧ State.reset.nmiPending = false ∧ State.reset.watchPending = false

/-- A requested cold reset is what the next step performs, whatever else is pending (R1117, R1120): ErrorEPC takes the restart
address if ERL was 0, and the core restarts in the state of `ResetState`. That memory, the caches and the TLB keep their contents is
the model's choice where the spec calls them undefined (assumption log 2). -/
def Obligations.ColdResetRestartsTheCore : Prop :=
  ∀ s : State, s.syscon.resetRequest = true → ∃ t, step s = .next t.settle ∧
    t.pc = 0xFFFF_FFFF_BFC0_0000 ∧ t.slot = .normal ∧
    t.cp0.errorEpc = (if s.erl then s.cp0.errorEpc else s.restartPc) ∧
    t.bev = true ∧ t.erl = true ∧ t.cp0.status.getLsbD 20 = false ∧ t.mode = .kernel ∧ t.cp0.random = 31 ∧ t.cp0.wired = 0 ∧
    t.configNow &&& 0x007F_FFF8 = 0x0002_58C0 ∧ t.tlbShutdown = false ∧
    t.power = .fullspeed ∧ t.nmiPending = false ∧ t.watchPending = false ∧ t.syscon.resetRequest = false ∧
    SameMemory s t ∧ t.tlb = s.tlb ∧ t.dcache = s.dcache ∧ t.icache = s.icache

/-- A pending NMI is taken by the next step of a running core (R1122): ErrorEPC takes the restart address if ERL was 0, ERL, SR and
BEV are set, and no other CP0 register, no general register, no TLB entry, no cache line, no byte of memory and no device changes
before what happens between instructions. -/
def Obligations.NmiEntry : Prop :=
  ∀ s : State, s.syscon.resetRequest = false → s.power = .fullspeed → s.nmiPending = true →
    ∃ t, step s = .next t.settle ∧ t.pc = 0xFFFF_FFFF_BFC0_0000 ∧ t.slot = .normal ∧ t.nmiPending = false ∧
      t.cp0 = { s.cp0 with
        errorEpc := if s.erl then s.cp0.errorEpc else s.restartPc
        status := s.cp0.status ||| 0x0050_0004 } ∧
      t.gpr = s.gpr ∧ t.hi = s.hi ∧ t.lo = s.lo ∧ SameMemory s t ∧ t.tlb = s.tlb ∧ t.icache = s.icache ∧ t.dcache = s.dcache ∧
      t.watchPending = s.watchPending ∧
      t = { s with pc := t.pc, slot := t.slot, nmiPending := t.nmiPending, cp0 := t.cp0 }

/-- Where an exception goes (R1125, R1126): the base address by BEV, offset 000H or 080H for a TLB Refill with EXL = 0 by the
addressing mode, 180H for everything else. -/
def Obligations.ExceptionVector : Prop :=
  ∀ (s : State) (e : Exc), (s.takeException e).slot = .normal ∧ (s.takeException e).pc =
    (if s.bev then 0xFFFF_FFFF_BFC0_0200 else 0xFFFF_FFFF_8000_0000) +
    (match e with
     | .tlbRefill _ _ => if s.exl then 0x180 else if s.is64bitMode then 0x080 else 0x000
     | _ => 0x180)

/-- What exception entry saves (R1130, R1131, R1133): EPC and Cause.BD only if EXL was 0, with the branch before a delay slot;
Cause.ExcCode, by the numbers of R48 and R1132, and EXL always; in Cause.CE the coprocessor number after Coprocessor Unusable (R1148);
no other bit of Status; no general register, HI, LO or byte of memory. -/
def Obligations.ExceptionEntrySaves : Prop :=
  ∀ (s : State) (e : Exc),
    (s.takeException e).cp0.epc = (if s.exl then s.cp0.epc else if s.inDelaySlot then s.pc - 4 else s.pc) ∧
    (s.takeException e).cp0.cause.getLsbD 31 = (if s.exl then s.cp0.cause.getLsbD 31 else s.inDelaySlot) ∧
    (s.takeException e).cp0.cause.extractLsb' 2 5 =
      (match e with
       | .int => 0
       | .mod _ => 1
       | .tlbRefill store _ => if store then 3 else 2
       | .tlbInvalid store _ => if store then 3 else 2
       | .addressError store _ => if store then 5 else 4
       | .ibe => 6
       | .dbe => 7
       | .sys => 8
       | .bp => 9
       | .ri => 10
       | .cpu _ => 11
       | .ov => 12
       | .tr => 13
       | .watch => 23 : BitVec 5) ∧
    (∀ unit, e = .cpu unit → (s.takeException e).cp0.cause.extractLsb' 28 2 = unit) ∧
    (s.takeException e).cp0.cause.extractLsb' 7 21 = s.cp0.cause.extractLsb' 7 21 ∧
    (s.takeException e).cp0.status = s.cp0.status ||| 2 ∧
    (s.takeException e).exl = true ∧ (s.takeException e).mode = .kernel ∧
    (s.takeException e).cp0.errorEpc = s.cp0.errorEpc ∧ (s.takeException e).cp0.random = s.cp0.random ∧
    SameRegisters s (s.takeException e) ∧ (s.takeException e).hi = s.hi ∧ (s.takeException e).lo = s.lo ∧
    SameMemory s (s.takeException e) ∧ SameOutsideCore s (s.takeException e)

/-- What exception entry does to the address registers (R33, R38, R54, R1132): a TLB exception writes BadVAddr and the VPN2 and
region fields of Context, XContext and EntryHi, whose other fields keep their values; an Address Error writes BadVAddr; any other
exception leaves all of them and EntryLo0/1 alone. -/
def Obligations.ExceptionAddressRegisters : Prop :=
  ∀ (s : State) (e : Exc),
    (∀ va, e.tlbAddress = some va →
      (s.takeException e).cp0.badVAddr = va ∧
      (s.takeException e).cp0.context.extractLsb' 4 21 = va.extractLsb' 11 21 ∧
      (s.takeException e).cp0.context.extractLsb' 25 39 = s.cp0.context.extractLsb' 25 39 ∧
      (s.takeException e).cp0.xcontext.extractLsb' 4 29 = va.extractLsb' 11 29 ∧
      (s.takeException e).cp0.xcontext.extractLsb' 33 2 = va.extractLsb' 62 2 ∧
      (s.takeException e).cp0.xcontext.extractLsb' 35 29 = s.cp0.xcontext.extractLsb' 35 29 ∧
      (s.takeException e).cp0.entryHi.extractLsb' 11 29 = va.extractLsb' 11 29 ∧
      (s.takeException e).cp0.entryHi.extractLsb' 62 2 = va.extractLsb' 62 2 ∧
      (s.takeException e).cp0.entryHi.extractLsb' 0 8 = s.cp0.entryHi.extractLsb' 0 8) ∧
    (∀ va, e.errorAddress = some va → (s.takeException e).cp0.badVAddr = va) ∧
    (e.tlbAddress = none → e.errorAddress = none →
      (s.takeException e).cp0.badVAddr = s.cp0.badVAddr ∧ (s.takeException e).cp0.context = s.cp0.context ∧
      (s.takeException e).cp0.xcontext = s.cp0.xcontext ∧ (s.takeException e).cp0.entryHi = s.cp0.entryHi ∧
      (s.takeException e).cp0.entryLo0 = s.cp0.entryLo0 ∧ (s.takeException e).cp0.entryLo1 = s.cp0.entryLo1)

/-- The interrupt enable condition (R1161): IE = 1, EXL = ERL = 0 and a pending bit of Cause.IP whose bit of Status.IM is set. Under it
the step takes the interrupt at the instruction boundary (R1117), and the interrupted instruction does not execute. That it is
taken at the first boundary is the model's choice (decision D41 in R1165, assumption log 53). -/
def Obligations.InterruptIsTaken : Prop :=
  ∀ (s : State) (t : Target),
    (s.interruptEnabled = true ↔ s.ie = true ∧ s.exl = false ∧ s.erl = false ∧
      ∃ n, 8 ≤ n ∧ n < 16 ∧ s.causeNow.getLsbD n = true ∧ s.cp0.status.getLsbD n = true) ∧
    (s.syscon.resetRequest = false → s.power = .fullspeed → s.nmiPending = false → s.watchPending = false →
      s.badMode = false → s.badConfig = false → s.fetchTarget = .ok t s → s.interruptEnabled = true →
      step s = .next (s.takeException .int).settle)

/-- Standby, Suspend and Hibernate: a stopped core executes nothing; the step only lets the rest of the chip go on (R460–R463). A core
in Standby or Suspend wakes when an interrupt line is asserted, the timer interrupt is set or an NMI is pending, masked or not (R463;
that the mask has no part in it is decision D38: DESIGN CHOICE, assumption log 32), and stays stopped otherwise. -/
def Obligations.StoppedCoreExecutesNothing : Prop :=
  ∀ s : State, s.syscon.resetRequest = false → s.power ≠ .fullspeed →
    ∃ t, step s = .next t ∧ t.gpr = s.gpr ∧ t.hi = s.hi ∧ t.lo = s.lo ∧ t.pc = s.pc ∧ t.slot = s.slot ∧
      t.cp0 = { s.cp0 with count := t.cp0.count, cause := t.cp0.cause } ∧
      (s.power = .hibernate → t.power = .hibernate ∧ t.cp0 = s.cp0) ∧
      (s.power ≠ .hibernate →
        let wakes : Prop := t.nmiPending = true ∨ ∃ n, 10 ≤ n ∧ n < 16 ∧ t.causeNow.getLsbD n = true
        (wakes → t.power = .fullspeed) ∧ (¬ wakes → t.power = s.power))

/-- Exceptions are precise (R1130): when an instruction that starts with EXL = 0 ends with EXL = 1, the general registers,
HI and LO are those from before it. -/
def Obligations.ExceptionsArePrecise : Prop :=
  ∀ (i : Instr) (s t : State), exec i s = .next t → s.exl = false → t.exl = true →
    SameRegisters s t ∧ t.hi = s.hi ∧ t.lo = s.lo

/-- The only way from User mode, with CU0 = 0, to another mode is an exception (R1173): any instruction either leaves the mode, the
Status register and the CP0 registers but Random alone, or enters an exception at one of the six vectors. -/
def Obligations.UserModeLeavesByExceptionOnly : Prop :=
  ∀ (i : Instr) (s t : State), exec i s = .next t → s.mode = .user → s.cu0 = false →
    (t.mode = .user ∧ t.cp0 = { s.cp0 with random := s.cp0.nextRandom } ∧ t.tlb = s.tlb) ∨
    (t.exl = true ∧ t.mode = .kernel ∧ t.tlb = s.tlb ∧
      (t.pc = s.vectorBase ∨ t.pc = s.vectorBase + 0x080 ∨ t.pc = s.vectorBase + 0x180))

/-! ### Computational instructions -/

/-- The logical instructions (R266–R269, R276–R279) complete for all operands and write their result and nothing else; register 0
takes nothing. -/
def Obligations.LogicalInstructions : Prop :=
  ∀ (rd rs rt : Reg) (imm : Half) (s : State),
    (∃ t, exec (.and rd rs rt) s = .next t ∧ WritesOnly s t rd (s.getReg rs &&& s.getReg rt)) ∧
    (∃ t, exec (.or rd rs rt) s = .next t ∧ WritesOnly s t rd (s.getReg rs ||| s.getReg rt)) ∧
    (∃ t, exec (.xor rd rs rt) s = .next t ∧ WritesOnly s t rd (s.getReg rs ^^^ s.getReg rt)) ∧
    (∃ t, exec (.nor rd rs rt) s = .next t ∧ WritesOnly s t rd (~~~(s.getReg rs) &&& ~~~(s.getReg rt))) ∧
    (∃ t, exec (.andi rt rs imm) s = .next t ∧ WritesOnly s t rt (s.getReg rs &&& imm.setWidth 64)) ∧
    (∃ t, exec (.ori rt rs imm) s = .next t ∧ WritesOnly s t rt (s.getReg rs ||| imm.setWidth 64)) ∧
    (∃ t, exec (.xori rt rs imm) s = .next t ∧ WritesOnly s t rt (s.getReg rs ^^^ imm.setWidth 64)) ∧
    (∃ t, exec (.lui rt imm) s = .next t ∧ WritesOnly s t rt (BitVec.ofInt 64 (imm.toInt * 65536)))

/-- The set-on-less-than instructions (R264, R265, R280, R281) write 1 or 0 by the comparison of the whole registers, signed or
unsigned; SLTIU sign-extends its immediate first. That all 64 bits are compared in every mode is derived in R260 (b), and the model's
choice for operands that are not sign-extended (DESIGN CHOICE, assumption log 13). -/
def Obligations.SetOnLessThan : Prop :=
  ∀ (rd rs rt : Reg) (imm : Half) (s : State),
    (∃ t, exec (.slt rd rs rt) s = .next t ∧
      WritesOnly s t rd (if (s.getReg rs).toInt < (s.getReg rt).toInt then 1 else 0)) ∧
    (∃ t, exec (.sltu rd rs rt) s = .next t ∧
      WritesOnly s t rd (if (s.getReg rs).toNat < (s.getReg rt).toNat then 1 else 0)) ∧
    (∃ t, exec (.slti rt rs imm) s = .next t ∧
      WritesOnly s t rt (if (s.getReg rs).toInt < imm.toInt then 1 else 0)) ∧
    (∃ t, exec (.sltiu rt rs imm) s = .next t ∧
      WritesOnly s t rt (if (s.getReg rs).toNat < (imm.signExtend 64).toNat then 1 else 0))

/-- The word additions and subtractions that never trap (R263, R273, R275): the exact sum or difference of the low words modulo
2^32, sign-extended. Operands that are not sign-extended words count by their low words (U4, decision D29; DESIGN CHOICE, assumption log 13). -/
def Obligations.WordAddWraps : Prop :=
  ∀ (rd rs rt : Reg) (imm : Half) (s : State),
    (∃ t, exec (.addu rd rs rt) s = .next t ∧
      WritesOnly s t rd ((BitVec.ofInt 32 ((s.word rs).toInt + (s.word rt).toInt)).signExtend 64)) ∧
    (∃ t, exec (.subu rd rs rt) s = .next t ∧
      WritesOnly s t rd ((BitVec.ofInt 32 ((s.word rs).toInt - (s.word rt).toInt)).signExtend 64)) ∧
    (∃ t, exec (.addiu rt rs imm) s = .next t ∧
      WritesOnly s t rt ((BitVec.ofInt 32 ((s.word rs).toInt + imm.toInt)).signExtend 64))

/-- The word additions and subtractions that trap (R261, R262, R272, R274): an exact result that fits in 32 bits is written; one
that does not raises Integer Overflow and writes nothing. Operands that are not sign-extended words count by their low words (U4, decision D29; DESIGN CHOICE, assumption log 13). -/
def Obligations.WordAddTraps : Prop :=
  ∀ (rd rs rt : Reg) (imm : Half) (s : State),
    let fits (x : Int) : Prop := -2147483648 ≤ x ∧ x < 2147483648
    let sum := (s.word rs).toInt + (s.word rt).toInt
    let dif := (s.word rs).toInt - (s.word rt).toInt
    let sumI := (s.word rs).toInt + imm.toInt
    (fits sum → ∃ t, exec (.add rd rs rt) s = .next t ∧ WritesOnly s t rd (BitVec.ofInt 64 sum)) ∧
    (¬ fits sum → exec (.add rd rs rt) s = .next (s.takeException .ov)) ∧
    (fits dif → ∃ t, exec (.sub rd rs rt) s = .next t ∧ WritesOnly s t rd (BitVec.ofInt 64 dif)) ∧
    (¬ fits dif → exec (.sub rd rs rt) s = .next (s.takeException .ov)) ∧
    (fits sumI → ∃ t, exec (.addi rt rs imm) s = .next t ∧ WritesOnly s t rt (BitVec.ofInt 64 sumI)) ∧
    (¬ fits sumI → exec (.addi rt rs imm) s = .next (s.takeException .ov))

/-- The doubleword additions and subtractions where 64-bit operations are enabled (R270, R271, R282–R285): DADDU, DSUBU and
DADDIU wrap modulo 2^64; DADD, DSUB and DADDI raise Integer Overflow where the exact result does not fit. -/
def Obligations.DwordAdd : Prop :=
  ∀ (rd rs rt : Reg) (imm : Half) (s : State), s.ops64 = true →
    let fits (x : Int) : Prop := -9223372036854775808 ≤ x ∧ x < 9223372036854775808
    let sum := (s.getReg rs).toInt + (s.getReg rt).toInt
    let dif := (s.getReg rs).toInt - (s.getReg rt).toInt
    let sumI := (s.getReg rs).toInt + imm.toInt
    (∃ t, exec (.daddu rd rs rt) s = .next t ∧ WritesOnly s t rd (BitVec.ofInt 64 sum)) ∧
    (∃ t, exec (.dsubu rd rs rt) s = .next t ∧ WritesOnly s t rd (BitVec.ofInt 64 dif)) ∧
    (∃ t, exec (.daddiu rt rs imm) s = .next t ∧ WritesOnly s t rt (BitVec.ofInt 64 sumI)) ∧
    (fits sum → ∃ t, exec (.dadd rd rs rt) s = .next t ∧ WritesOnly s t rd (BitVec.ofInt 64 sum)) ∧
    (¬ fits sum → exec (.dadd rd rs rt) s = .next (s.takeException .ov)) ∧
    (fits dif → ∃ t, exec (.dsub rd rs rt) s = .next t ∧ WritesOnly s t rd (BitVec.ofInt 64 dif)) ∧
    (¬ fits dif → exec (.dsub rd rs rt) s = .next (s.takeException .ov)) ∧
    (fits sumI → ∃ t, exec (.daddi rt rs imm) s = .next t ∧ WritesOnly s t rt (BitVec.ofInt 64 sumI)) ∧
    (¬ fits sumI → exec (.daddi rt rs imm) s = .next (s.takeException .ov))

/-- The word shifts (R301–R307): the low word by 0 to 31 places, the result sign-extended; the variable forms take bits 4:0 of
rs. -/
def Obligations.WordShifts : Prop :=
  ∀ (rd rt rs : Reg) (sa : BitVec 5) (s : State),
    let n := (s.getReg rs).toNat % 32
    let x := s.word rt
    (∃ t, exec (.sll rd rt sa) s = .next t ∧ WritesOnly s t rd ((BitVec.ofNat 32 (x.toNat * 2 ^ sa.toNat)).signExtend 64)) ∧
    (∃ t, exec (.srl rd rt sa) s = .next t ∧ WritesOnly s t rd ((BitVec.ofNat 32 (x.toNat / 2 ^ sa.toNat)).signExtend 64)) ∧
    (∃ t, exec (.sra rd rt sa) s = .next t ∧ WritesOnly s t rd (BitVec.ofInt 64 (x.toInt / 2 ^ sa.toNat))) ∧
    (∃ t, exec (.sllv rd rt rs) s = .next t ∧ WritesOnly s t rd ((BitVec.ofNat 32 (x.toNat * 2 ^ n)).signExtend 64)) ∧
    (∃ t, exec (.srlv rd rt rs) s = .next t ∧ WritesOnly s t rd ((BitVec.ofNat 32 (x.toNat / 2 ^ n)).signExtend 64)) ∧
    (∃ t, exec (.srav rd rt rs) s = .next t ∧ WritesOnly s t rd (BitVec.ofInt 64 (x.toInt / 2 ^ n)))

/-- The doubleword shifts where 64-bit operations are enabled (R308–R316): by 0 to 31, by 32 to 63, or by bits 5:0 of rs. -/
def Obligations.DwordShifts : Prop :=
  ∀ (rd rt rs : Reg) (sa : BitVec 5) (s : State), s.ops64 = true →
    let n := (s.getReg rs).toNat % 64
    let x := s.getReg rt
    (∃ t, exec (.dsll rd rt sa) s = .next t ∧ WritesOnly s t rd (BitVec.ofNat 64 (x.toNat * 2 ^ sa.toNat))) ∧
    (∃ t, exec (.dsrl rd rt sa) s = .next t ∧ WritesOnly s t rd (BitVec.ofNat 64 (x.toNat / 2 ^ sa.toNat))) ∧
    (∃ t, exec (.dsra rd rt sa) s = .next t ∧ WritesOnly s t rd (BitVec.ofInt 64 (x.toInt / 2 ^ sa.toNat))) ∧
    (∃ t, exec (.dsll32 rd rt sa) s = .next t ∧ WritesOnly s t rd (BitVec.ofNat 64 (x.toNat * 2 ^ (32 + sa.toNat)))) ∧
    (∃ t, exec (.dsrl32 rd rt sa) s = .next t ∧ WritesOnly s t rd (BitVec.ofNat 64 (x.toNat / 2 ^ (32 + sa.toNat)))) ∧
    (∃ t, exec (.dsra32 rd rt sa) s = .next t ∧ WritesOnly s t rd (BitVec.ofInt 64 (x.toInt / 2 ^ (32 + sa.toNat)))) ∧
    (∃ t, exec (.dsllv rd rt rs) s = .next t ∧ WritesOnly s t rd (BitVec.ofNat 64 (x.toNat * 2 ^ n))) ∧
    (∃ t, exec (.dsrlv rd rt rs) s = .next t ∧ WritesOnly s t rd (BitVec.ofNat 64 (x.toNat / 2 ^ n))) ∧
    (∃ t, exec (.dsrav rd rt rs) s = .next t ∧ WritesOnly s t rd (BitVec.ofInt 64 (x.toInt / 2 ^ n)))

/-! ### Multiply, divide, accumulate -/

/-- The multiplications (R332, R333, R336, R337): HI and LO take the high and the low half of the exact product, each word
sign-extended; DMULT and DMULTU where 64-bit operations are enabled.
Operands that are not sign-extended words count by their low words (U4, decision D29; DESIGN CHOICE, assumption log 13). -/
def Obligations.Multiplications : Prop :=
  ∀ (rs rt : Reg) (s : State),
    let p := (s.word rs).toInt * (s.word rt).toInt
    let u := (s.word rs).toNat * (s.word rt).toNat
    let q := (s.getReg rs).toInt * (s.getReg rt).toInt
    let v := (s.getReg rs).toNat * (s.getReg rt).toNat
    (∃ t, exec (.mult rs rt) s = .next t ∧
      WritesHiLo s t ((BitVec.ofInt 32 (p / 2 ^ 32)).signExtend 64) ((BitVec.ofInt 32 p).signExtend 64)) ∧
    (∃ t, exec (.multu rs rt) s = .next t ∧
      WritesHiLo s t ((BitVec.ofNat 32 (u / 2 ^ 32)).signExtend 64) ((BitVec.ofNat 32 u).signExtend 64)) ∧
    (s.ops64 = true → ∃ t, exec (.dmult rs rt) s = .next t ∧
      WritesHiLo s t (BitVec.ofInt 64 (q / 2 ^ 64)) (BitVec.ofInt 64 q)) ∧
    (s.ops64 = true → ∃ t, exec (.dmultu rs rt) s = .next t ∧
      WritesHiLo s t (BitVec.ofNat 64 (v / 2 ^ 64)) (BitVec.ofNat 64 v))

/-- The divisions (R334, R335, R338, R339): HI takes the remainder and LO the quotient of the exact division, rounded toward zero for
the signed forms (decision D31). A division by zero raises no exception and completes: HI and LO take any values (U33), and nothing
else changes. -/
def Obligations.Divisions : Prop :=
  ∀ (rs rt : Reg) (s : State),
    let n := (s.word rs).toInt
    let d := (s.word rt).toInt
    let nu := (s.word rs).toNat
    let du := (s.word rt).toNat
    (s.word rt ≠ 0 → ∃ t, exec (.div rs rt) s = .next t ∧
      WritesHiLo s t ((BitVec.ofInt 32 (n.tmod d)).signExtend 64) ((BitVec.ofInt 32 (n.tdiv d)).signExtend 64)) ∧
    (s.word rt ≠ 0 → ∃ t, exec (.divu rs rt) s = .next t ∧
      WritesHiLo s t ((BitVec.ofNat 32 (nu % du)).signExtend 64) ((BitVec.ofNat 32 (nu / du)).signExtend 64)) ∧
    (s.getReg rt ≠ 0 → s.ops64 = true → ∃ t, exec (.ddiv rs rt) s = .next t ∧
      WritesHiLo s t (BitVec.ofInt 64 ((s.getReg rs).toInt.tmod (s.getReg rt).toInt))
        (BitVec.ofInt 64 ((s.getReg rs).toInt.tdiv (s.getReg rt).toInt))) ∧
    (s.getReg rt ≠ 0 → s.ops64 = true → ∃ t, exec (.ddivu rs rt) s = .next t ∧
      WritesHiLo s t (BitVec.ofNat 64 ((s.getReg rs).toNat % (s.getReg rt).toNat))
        (BitVec.ofNat 64 ((s.getReg rs).toNat / (s.getReg rt).toNat))) ∧
    (s.word rt = 0 → (∃ t, exec (.div rs rt) s = .next t ∧ WritesResults s t 0 0 t.hi t.lo) ∧
      (∃ t, exec (.divu rs rt) s = .next t ∧ WritesResults s t 0 0 t.hi t.lo)) ∧
    (s.getReg rt = 0 → s.ops64 = true → (∃ t, exec (.ddiv rs rt) s = .next t ∧ WritesResults s t 0 0 t.hi t.lo) ∧
      (∃ t, exec (.ddivu rs rt) s = .next t ∧ WritesResults s t 0 0 t.hi t.lo))

/-- The moves of HI and LO (R340–R343). -/
def Obligations.HiLoMoves : Prop :=
  ∀ (r : Reg) (s : State),
    (∃ t, exec (.mfhi r) s = .next t ∧ WritesOnly s t r s.hi) ∧
    (∃ t, exec (.mflo r) s = .next t ∧ WritesOnly s t r s.lo) ∧
    (∃ t, exec (.mthi r) s = .next t ∧ WritesHiLo s t (s.getReg r) s.lo) ∧
    (∃ t, exec (.mtlo r) s = .next t ∧ WritesHiLo s t s.hi (s.getReg r))

/-- MACC (R349): the accumulator is HI[31:0] ‖ LO[31:0]; its 64-bit sum with the product goes back to HI and LO, each half
sign-extended; rd takes the new LO, or the new HI if hi = 1. With saturation the signed sum is clamped to 32 bits, and an unsigned
sum above 2^32 − 1 becomes all ones (decision D28, assumption log 16). -/
def Obligations.MaccAccumulates : Prop :=
  (∀ (rd rs rt : Reg) (s : State),
      let acc : Dword := s.hi.setWidth 32 ++ s.lo.setWidth 32
      let t0 := acc + (s.word rs).signExtend 64 * (s.word rt).signExtend 64
      let u0 := acc + (s.word rs).setWidth 64 * (s.word rt).setWidth 64
      let hi (x : Dword) : Dword := (x.extractLsb' 32 32).signExtend 64
      let lo (x : Dword) : Dword := (x.extractLsb' 0 32).signExtend 64
      (∃ t, exec (.macc rd rs rt) s = .next t ∧ WritesResults s t rd (lo t0) (hi t0) (lo t0)) ∧
      (∃ t, exec (.maccu rd rs rt) s = .next t ∧ WritesResults s t rd (lo u0) (hi u0) (lo u0)) ∧
      (∃ t, exec (.macchi rd rs rt) s = .next t ∧ WritesResults s t rd (hi t0) (hi t0) (lo t0)) ∧
      (∃ t, exec (.macchiu rd rs rt) s = .next t ∧ WritesResults s t rd (hi u0) (hi u0) (lo u0))) ∧
  (∀ (rd rs rt : Reg) (s : State),
      let acc : Dword := s.hi.setWidth 32 ++ s.lo.setWidth 32
      let x : Int := (s.word rs).toInt * (s.word rt).toInt + acc.toInt
      let y : Nat := (s.word rs).toNat * (s.word rt).toNat + acc.toNat
      let t0 : Dword := BitVec.ofInt 64 (max (-2147483648) (min 2147483647 x))
      let u0 : Dword := if y < 4294967296 then BitVec.ofNat 64 y else BitVec.allOnes 64
      let hi (x : Dword) : Dword := (x.extractLsb' 32 32).signExtend 64
      let lo (x : Dword) : Dword := (x.extractLsb' 0 32).signExtend 64
      (∃ t, exec (.maccs rd rs rt) s = .next t ∧ WritesResults s t rd (lo t0) (hi t0) (lo t0)) ∧
      (∃ t, exec (.maccus rd rs rt) s = .next t ∧ WritesResults s t rd (lo u0) (hi u0) (lo u0)) ∧
      (∃ t, exec (.macchis rd rs rt) s = .next t ∧ WritesResults s t rd (hi t0) (hi t0) (lo t0)) ∧
      (∃ t, exec (.macchius rd rs rt) s = .next t ∧ WritesResults s t rd (hi u0) (hi u0) (lo u0)))

/-- DMACC where 64-bit operations are enabled (R350): the accumulator is LO alone, HI is never written, and rd takes the new LO, or
HI if hi = 1; the saturating forms clamp as MACC does. -/
def Obligations.DmaccAccumulates : Prop :=
  ∀ (rd rs rt : Reg) (s : State), s.ops64 = true →
    let t0 := s.lo + (s.word rs).signExtend 64 * (s.word rt).signExtend 64
    let u0 := s.lo + (s.word rs).setWidth 64 * (s.word rt).setWidth 64
    let x : Int := (s.word rs).toInt * (s.word rt).toInt + s.lo.toInt
    let y : Nat := (s.word rs).toNat * (s.word rt).toNat + s.lo.toNat
    let t1 : Dword := BitVec.ofInt 64 (max (-2147483648) (min 2147483647 x))
    let u1 : Dword := if y < 4294967296 then BitVec.ofNat 64 y else BitVec.allOnes 64
    (∃ t, exec (.dmacc rd rs rt) s = .next t ∧ WritesResults s t rd t0 s.hi t0) ∧
    (∃ t, exec (.dmaccu rd rs rt) s = .next t ∧ WritesResults s t rd u0 s.hi u0) ∧
    (∃ t, exec (.dmacchi rd rs rt) s = .next t ∧ WritesResults s t rd s.hi s.hi t0) ∧
    (∃ t, exec (.dmacchiu rd rs rt) s = .next t ∧ WritesResults s t rd s.hi s.hi u0) ∧
    (∃ t, exec (.dmaccs rd rs rt) s = .next t ∧ WritesResults s t rd t1 s.hi t1) ∧
    (∃ t, exec (.dmaccus rd rs rt) s = .next t ∧ WritesResults s t rd u1 s.hi u1) ∧
    (∃ t, exec (.dmacchis rd rs rt) s = .next t ∧ WritesResults s t rd s.hi s.hi t1) ∧
    (∃ t, exec (.dmacchius rd rs rt) s = .next t ∧ WritesResults s t rd s.hi s.hi u1)

/-! ### Loads and stores -/

/-- The loads from SDRAM without the cache (R220–R232). The aligned ones: rt takes the bytes at the physical address, little-endian,
sign-extended or zero-extended. LWL, LWR, LDL and LDR: byte by byte, which bytes of rt come from memory and which stay; `a` is the
address of the first byte read; the word forms sign-extend their word. LWU, LD, LDL and LDR where 64-bit operations are enabled. -/
def Obligations.UncachedLoads : Prop :=
  (∀ (rt base : Reg) (offset : Half) (s u : State) (a : Nat),
      let va := s.getReg base + offset.signExtend 64
      let refers (n : Nat) : Prop := RefersToSdram s false n va (va.toNat % 8) a u
      (refers 1 → ∃ t, exec (.lb rt base offset) s = .next t ∧ WritesOnly u t rt ((u.mem.byte a).signExtend 64)) ∧
      (refers 1 → ∃ t, exec (.lbu rt base offset) s = .next t ∧ WritesOnly u t rt ((u.mem.byte a).setWidth 64)) ∧
      (refers 2 → ∃ t, exec (.lh rt base offset) s = .next t ∧
        WritesOnly u t rt ((u.mem.byte (a + 1) ++ u.mem.byte a).signExtend 64)) ∧
      (refers 2 → ∃ t, exec (.lhu rt base offset) s = .next t ∧
        WritesOnly u t rt ((u.mem.byte (a + 1) ++ u.mem.byte a).setWidth 64)) ∧
      (refers 4 → ∃ t, exec (.lw rt base offset) s = .next t ∧
        WritesOnly u t rt ((BitVec.ofNat 32 (u.mem.read a 4)).signExtend 64)) ∧
      (refers 4 → s.ops64 = true → ∃ t, exec (.lwu rt base offset) s = .next t ∧
        WritesOnly u t rt (BitVec.ofNat 64 (u.mem.read a 4))) ∧
      (refers 8 → s.ops64 = true → ∃ t, exec (.ld rt base offset) s = .next t ∧
        WritesOnly u t rt (BitVec.ofNat 64 (u.mem.read a 8)))) ∧
  (∀ (rt base : Reg) (offset : Half) (s u : State) (a : Nat),
      let va := s.getReg base + offset.signExtend 64
      let b4 := va.toNat % 4
      let b8 := va.toNat % 8
      let old (i : Nat) : Byte := dwordByte (s.getReg rt) i
      (RefersToSdram s false 1 va (b8 / 4 * 4) a u →
        ∃ t w, exec (.lwl rt base offset) s = .next t ∧ WritesOnly u t rt ((w : Word).signExtend 64) ∧
          ∀ i, i < 4 → byteOf i w = if 3 - b4 ≤ i then u.mem.byte (a + (i - (3 - b4))) else old i) ∧
      (RefersToSdram s false 1 va b8 a u →
        ∃ t w, exec (.lwr rt base offset) s = .next t ∧ WritesOnly u t rt ((w : Word).signExtend 64) ∧
          ∀ i, i < 4 → byteOf i w = if i < 4 - b4 then u.mem.byte (a + i) else old i) ∧
      (RefersToSdram s false 1 va 0 a u → s.ops64 = true →
        ∃ t w, exec (.ldl rt base offset) s = .next t ∧ WritesOnly u t rt w ∧
          ∀ i, i < 8 → dwordByte w i = if 7 - b8 ≤ i then u.mem.byte (a + (i - (7 - b8))) else old i) ∧
      (RefersToSdram s false 1 va b8 a u → s.ops64 = true →
        ∃ t w, exec (.ldr rt base offset) s = .next t ∧ WritesOnly u t rt w ∧
          ∀ i, i < 8 → dwordByte w i = if i < 8 - b8 then u.mem.byte (a + i) else old i))

/-- The stores to SDRAM without the cache, in a state whose memory is canonical (R220, R233–R240): the low bytes of rt — for SWL
and SDL the high bytes — stand at the address afterwards, and no other byte of memory changes; the write is posted for the bus
masters (assumption log 66). -/
def Obligations.UncachedStores : Prop :=
  ∀ (rt base : Reg) (offset : Half) (s u : State) (a : Nat), s.memoryCanonical = true →
    let va := s.getReg base + offset.signExtend 64
    let v := (s.getReg rt).toNat
    let w := (s.word rt).toNat
    let b4 := va.toNat % 4
    let b8 := va.toNat % 8
    let refers (align lo : Nat) : Prop := RefersToSdram s true align va lo a u
    (refers 1 b8 → ∃ t, exec (.sb rt base offset) s = .next t ∧ StoresOnly u t a 1 v) ∧
    (refers 2 b8 → ∃ t, exec (.sh rt base offset) s = .next t ∧ StoresOnly u t a 2 v) ∧
    (refers 4 b8 → ∃ t, exec (.sw rt base offset) s = .next t ∧ StoresOnly u t a 4 v) ∧
    (refers 1 (b8 / 4 * 4) → ∃ t, exec (.swl rt base offset) s = .next t ∧ StoresOnly u t a (b4 + 1) (w / 256 ^ (3 - b4))) ∧
    (refers 1 b8 → ∃ t, exec (.swr rt base offset) s = .next t ∧ StoresOnly u t a (4 - b4) v) ∧
    (refers 8 b8 → s.ops64 = true → ∃ t, exec (.sd rt base offset) s = .next t ∧ StoresOnly u t a 8 v) ∧
    (refers 1 0 → s.ops64 = true → ∃ t, exec (.sdl rt base offset) s = .next t ∧ StoresOnly u t a (b8 + 1) (v / 256 ^ (7 - b8))) ∧
    (refers 1 b8 → s.ops64 = true → ∃ t, exec (.sdr rt base offset) s = .next t ∧ StoresOnly u t a (8 - b8) v)

/-- The loads and stores through the data cache, in a canonical state (R143, R220–R240): a load takes the bytes of the line and
changes nothing else; a store puts its bytes into the line, which becomes dirty, and every other line, every byte of memory and
every register stays. LWL, LWR, LDL and LDR byte by byte; the left forms begin at the start of the word or doubleword. `u` is the state
after the checks and, on a miss, after the refill that `DataCacheRefills` describes. -/
def Obligations.CachedLoadsAndStores : Prop :=
  ∀ (rt base : Reg) (offset : Half) (s u : State), s.canonical = true →
    let va := s.getReg base + offset.signExtend 64
    let o := va.toNat % 16
    let b4 := va.toNat % 4
    let b8 := va.toNat % 8
    let byte (i : Nat) : Byte := (u.dLine (dIndex va)).data.extractLsb' (8 * i) 8
    let d (n : Nat) : Nat := (u.dLine (dIndex va)).data.toNat / 256 ^ o % 256 ^ n
    let old (i : Nat) : Byte := dwordByte (s.getReg rt) i
    let reads (n : Nat) : Prop := ThroughDataCache s false n va u
    let writes (n : Nat) : Prop := ThroughDataCache s true n va u
    let stores (first n low : Nat) (t : State) : Prop :=
      (t.dLine (dIndex va)).v = true ∧ (t.dLine (dIndex va)).w = true ∧
      (t.dLine (dIndex va)).ptag = (u.dLine (dIndex va)).ptag ∧
      (∀ i, i < 16 → ((t.dLine (dIndex va)).data.extractLsb' (8 * i) 8 : Byte) =
        if first ≤ i ∧ i < first + n then old (low + (i - first)) else byte i) ∧
      (∀ j, j ≠ dIndex va → t.dLine j = u.dLine j) ∧ t.icache = u.icache ∧ SameMemory u t ∧ SameRegisters u t ∧
      t.hi = u.hi ∧ t.lo = u.lo ∧ t.free = u.free ∧ Retired u t ∧ SameBesidesCaches u t
    (reads 1 → ∃ t, exec (.lb rt base offset) s = .next t ∧ WritesOnly u t rt ((BitVec.ofNat 8 (d 1)).signExtend 64)) ∧
    (reads 1 → ∃ t, exec (.lbu rt base offset) s = .next t ∧ WritesOnly u t rt (BitVec.ofNat 64 (d 1))) ∧
    (reads 2 → ∃ t, exec (.lh rt base offset) s = .next t ∧ WritesOnly u t rt ((BitVec.ofNat 16 (d 2)).signExtend 64)) ∧
    (reads 2 → ∃ t, exec (.lhu rt base offset) s = .next t ∧ WritesOnly u t rt (BitVec.ofNat 64 (d 2))) ∧
    (reads 4 → ∃ t, exec (.lw rt base offset) s = .next t ∧ WritesOnly u t rt ((BitVec.ofNat 32 (d 4)).signExtend 64)) ∧
    (reads 4 → s.ops64 = true → ∃ t, exec (.lwu rt base offset) s = .next t ∧ WritesOnly u t rt (BitVec.ofNat 64 (d 4))) ∧
    (reads 8 → s.ops64 = true → ∃ t, exec (.ld rt base offset) s = .next t ∧ WritesOnly u t rt (BitVec.ofNat 64 (d 8))) ∧
    (reads 1 → ∃ t x, exec (.lwl rt base offset) s = .next t ∧ WritesOnly u t rt ((x : Word).signExtend 64) ∧
      ∀ i, i < 4 → byteOf i x = if 3 - b4 ≤ i then byte (o - b4 + (i - (3 - b4))) else old i) ∧
    (reads 1 → ∃ t x, exec (.lwr rt base offset) s = .next t ∧ WritesOnly u t rt ((x : Word).signExtend 64) ∧
      ∀ i, i < 4 → byteOf i x = if i < 4 - b4 then byte (o + i) else old i) ∧
    (reads 1 → s.ops64 = true → ∃ t x, exec (.ldl rt base offset) s = .next t ∧ WritesOnly u t rt x ∧
      ∀ i, i < 8 → dwordByte x i = if 7 - b8 ≤ i then byte (o - b8 + (i - (7 - b8))) else old i) ∧
    (reads 1 → s.ops64 = true → ∃ t x, exec (.ldr rt base offset) s = .next t ∧ WritesOnly u t rt x ∧
      ∀ i, i < 8 → dwordByte x i = if i < 8 - b8 then byte (o + i) else old i) ∧
    (writes 1 → ∃ t, exec (.sb rt base offset) s = .next t ∧ stores o 1 0 t) ∧
    (writes 2 → ∃ t, exec (.sh rt base offset) s = .next t ∧ stores o 2 0 t) ∧
    (writes 4 → ∃ t, exec (.sw rt base offset) s = .next t ∧ stores o 4 0 t) ∧
    (writes 8 → s.ops64 = true → ∃ t, exec (.sd rt base offset) s = .next t ∧ stores o 8 0 t) ∧
    (writes 1 → ∃ t, exec (.swl rt base offset) s = .next t ∧ stores (o - b4) (b4 + 1) (3 - b4) t) ∧
    (writes 1 → ∃ t, exec (.swr rt base offset) s = .next t ∧ stores o (4 - b4) 0 t) ∧
    (writes 1 → s.ops64 = true → ∃ t, exec (.sdl rt base offset) s = .next t ∧ stores (o - b8) (b8 + 1) (7 - b8) t) ∧
    (writes 1 → s.ops64 = true → ∃ t, exec (.sdr rt base offset) s = .next t ∧ stores o (8 - b8) 0 t)

/-- Bringing a line into the data cache (R143–R145), in a canonical state. On a hit nothing happens. On a miss a dirty line is written
back first, its 16 bytes to its home in SDRAM; then the 16 bytes of SDRAM around the address fill the line, which becomes Valid clean
with the tag of the address; every other line and every other byte of memory stay. A refill from outside the boot ROM's configured size
is reported as an error: the line is left Invalid, and the load or the store raises DBE (for a store DEDUCED from R130, R135 and R145,
assumption log 64). The refill follows the posted writes of the memory side. -/
def Obligations.DataCacheRefills : Prop :=
  (∀ (s : State) (va : Dword) (pa : PAddr), s.canonical = true →
    let i := dIndex va
    let d := s.dLine i
    let src := foldAddress (lineBase pa)
    let home := foldAddress (writeBackAddress i d.ptag)
    let b := s.postMemory home 16 d.data.toNat
    let refilled (u t : State) : Prop := s.fillD va pa = .ok () t ∧ (t.dLine i).hit pa = true ∧ (t.dLine i).w = false ∧
      (t.dLine i).data = BitVec.ofNat 128 (t.mem.read src 16) ∧ (∀ j, j ≠ i → t.dLine j = s.dLine j) ∧
      t = { u with dcache := t.dcache }
    (d.hit pa = true → s.fillD va pa = .ok () s) ∧
    (d.hit pa = false → (d.v = false ∨ d.w = false) → (s.await .memory).region src = .sdram →
      ∃ t, refilled (s.await .memory) t ∧ SameMemory s t) ∧
    (d.hit pa = false → d.v = true → d.w = true → s.regionAhead home = .sdram → (b.await .memory).region src = .sdram →
      ∃ t, refilled (b.await .memory) t ∧ t.mem.read home 16 = d.data.toNat ∧
        ∀ c, c < home ∨ home + 16 ≤ c → t.mem.byte c = s.mem.byte c) ∧
    (d.hit pa = false → (d.v = false ∨ d.w = false) → (s.await .memory).region src = .romOutside →
      ∃ t, s.fillD va pa = .raise .dbe t ∧ (t.dLine i).v = false ∧ (∀ j, j ≠ i → t.dLine j = s.dLine j) ∧ SameMemory s t ∧
        t = { (s.await .memory).nmiCause nsrMAERR with dcache := t.dcache })) ∧
  (∀ (rt base : Reg) (offset : Half) (s v t : State) (pa : PAddr) (n : Nat),
    let va := s.getReg base + offset.signExtend 64
    let fails (w : Bool) : Prop := s.dataTarget w n va = .ok { pa := pa, cached := true } v ∧ v.fillD va pa = .raise .dbe t
    (fails false → ∀ i ∈ loadForms s.ops64 rt base offset n, exec i s = .next (t.takeException .dbe)) ∧
    (fails true → ∀ i ∈ storeForms s.ops64 rt base offset n, exec i s = .next (t.takeException .dbe)))

/-- Single reads without the cache elsewhere than in SDRAM (R135, R138, R502). `a` is the decoded address, `u` the state after the
posted writes of its side, `e` the bus error of the reference. Boot ROM answers words and doublewords; a byte or halfword sets
S_NSR.MAERR; outside its configured size the error is returned too. A reserved range of memory or of the IBUS sets MAERR or IBERR,
and the data are open (U6). A reserved register address sets CBERR and returns the error (R502 2). The model's choice and no words of
R135, R138 or R502 (DESIGN CHOICE, assumption log 34): that it does so whatever the size of the access; that an access of more than one
word is a burst whose IRERR is set when it has ended, whatever it has read; that such a burst which touches a reserved word sets CBERR
with IRERR and returns the error. A word read of a register is answered by its device. A load whose read returns the error takes the bus
error exception; one whose read is answered writes its register. Left out here: blocks whose clock is stopped, the window onto the PCI
bus, and word reads of the UART, the timers and the Micro Wire block. -/
def Obligations.UncachedReadsElsewhere : Prop :=
  (∀ (s : State) (e : Exc) (pa : PAddr) (n : Nat), 1 ≤ n → n ≤ 8 →
    let a := foldAddress pa
    let u := s.await (busSide a)
    let off (b : Block) : Nat := blockOffset b a
    let raises (t : State) : Prop := s.busRead e pa n = .raise e t
    let anyData (t : State) : Prop := ∃ v, s.busRead e pa n = .ok v { t with free := t.free + 1 }
    let answers (w : Word) (t : State) : Prop := s.busRead e pa n = .ok (w.setWidth 64) t
    (u.region a = .rom → (n = 4 ∨ n = 8) → s.busRead e pa n = .ok (BitVec.ofNat 64 (u.mem.read a n)) u) ∧
    (u.region a = .rom → (n = 1 ∨ n = 2) → anyData (u.nmiCause nsrMAERR)) ∧
    (u.region a = .romOutside → raises (u.nmiCause nsrMAERR)) ∧
    (u.region a = .memReserved → anyData (u.nmiCause nsrMAERR)) ∧
    (u.region a = .ibusReserved → anyData (u.nmiCause nsrIBERR)) ∧
    ((u.region a = .syscon ∧ u.sysconReserved (a % 0x1000 / 4 * 4) = true ∨
        ∃ b, u.region a = .block b ∧ u.blockReserved b (off b) = true) →
      (a % 4 + n ≤ 4 → raises (u.nmiCause nsrCBERR)) ∧
      (4 < a % 4 + n → raises ((u.nmiCause nsrCBERR).nmiCause nsrIRERR))) ∧
    ((u.region a = .syscon ∨ ∃ b, u.region a = .block b) → 4 < a % 4 + n → ∀ v t,
      (s.busRead e pa n = .ok v t ∨ s.busRead e pa n = .raise e t) → t.syscon.nsr.getLsbD 5 = true) ∧
    (n = 4 → a % 4 = 0 → u.region a = .syscon → ∀ w d, a % 0x1000 ∉ [0x80, 0x84, 0x88, 0x8C, 0x90, 0x94, 0x98, 0x9C, 0xB0, 0xB4,
        0xB8, 0xBC, 0xC0, 0xD0, 0xD4, 0xD8, 0xDC, 0xE0] →
      u.syscon.read u.board.clksl u.board.endcen (a % 0x1000) 0xF = { dev := d, data := some w } →
      answers w { u with syscon := d }) ∧
    (n = 4 → a % 4 = 0 → ∀ b, u.region a = .block b → u.syscon.stopped b = false → ∀ w,
      (∀ d, b = .usb → u.usb.read (off b) 0xF = { dev := d, data := some w } → answers w { u with usb := d }) ∧
      (∀ d, b = .eth1 → u.eth1.read (off b) 0xF = { dev := d, data := some w } → answers w { u with eth1 := d }) ∧
      (∀ d, b = .eth2 → u.eth2.read (off b) 0xF = { dev := d, data := some w } → answers w { u with eth2 := d }) ∧
      (∀ d, b = .atm → u.atm.read (off b) 0xF = { dev := d, data := some w } → answers w { u with atm := d }) ∧
      (∀ d, b = .pci → u.pci.read u.board.nic (off b) 0xF = { dev := d, data := some w } →
        answers w { u with pci := d }))) ∧
  (∀ (rt base : Reg) (offset : Half) (s v t : State) (pa : PAddr) (d : Dword),
    let va := s.getReg base + offset.signExtend 64
    let b4 := va.toNat % 4
    let b8 := va.toNat % 8
    let old (i : Nat) : Byte := dwordByte (s.getReg rt) i
    let reads (align lo n : Nat) (r : Res Dword) : Prop :=
      s.dataTarget false align va = .ok { pa := pa, cached := false } v ∧ v.busRead .dbe (inDoubleword pa lo) n = r
    let dbe (i : Instr) : Prop := exec i s = .next (t.takeException .dbe)
    let gives (i : Instr) (x : Dword) : Prop := ∃ z, exec i s = .next z ∧ WritesOnly t z rt x
    (reads 1 b8 1 (.raise .dbe t) → dbe (.lb rt base offset) ∧ dbe (.lbu rt base offset)) ∧
    (reads 2 b8 2 (.raise .dbe t) → dbe (.lh rt base offset) ∧ dbe (.lhu rt base offset)) ∧
    (reads 4 b8 4 (.raise .dbe t) → dbe (.lw rt base offset) ∧ (s.ops64 = true → dbe (.lwu rt base offset))) ∧
    (reads 8 b8 8 (.raise .dbe t) → s.ops64 = true → dbe (.ld rt base offset)) ∧
    (reads 1 (b8 / 4 * 4) (b4 + 1) (.raise .dbe t) → dbe (.lwl rt base offset)) ∧
    (reads 1 b8 (4 - b4) (.raise .dbe t) → dbe (.lwr rt base offset)) ∧
    (reads 1 0 (b8 + 1) (.raise .dbe t) → s.ops64 = true → dbe (.ldl rt base offset)) ∧
    (reads 1 b8 (8 - b8) (.raise .dbe t) → s.ops64 = true → dbe (.ldr rt base offset)) ∧
    (reads 1 b8 1 (.ok d t) → gives (.lb rt base offset) ((d.setWidth 8).signExtend 64) ∧
      gives (.lbu rt base offset) ((d.setWidth 8).setWidth 64)) ∧
    (reads 2 b8 2 (.ok d t) → gives (.lh rt base offset) ((d.setWidth 16).signExtend 64) ∧
      gives (.lhu rt base offset) ((d.setWidth 16).setWidth 64)) ∧
    (reads 4 b8 4 (.ok d t) → gives (.lw rt base offset) ((d.setWidth 32).signExtend 64) ∧
      (s.ops64 = true → gives (.lwu rt base offset) ((d.setWidth 32).setWidth 64))) ∧
    (reads 8 b8 8 (.ok d t) → s.ops64 = true → gives (.ld rt base offset) d) ∧
    (reads 1 (b8 / 4 * 4) (b4 + 1) (.ok d t) → ∃ x : Word, gives (.lwl rt base offset) (x.signExtend 64) ∧
      ∀ i, i < 4 → byteOf i x = if 3 - b4 ≤ i then dwordByte d (i - (3 - b4)) else old i) ∧
    (reads 1 b8 (4 - b4) (.ok d t) → ∃ x : Word, gives (.lwr rt base offset) (x.signExtend 64) ∧
      ∀ i, i < 4 → byteOf i x = if i < 4 - b4 then dwordByte d i else old i) ∧
    (reads 1 0 (b8 + 1) (.ok d t) → s.ops64 = true → ∃ x, gives (.ldl rt base offset) x ∧
      ∀ i, i < 8 → dwordByte x i = if 7 - b8 ≤ i then dwordByte d (i - (7 - b8)) else old i) ∧
    (reads 1 b8 (8 - b8) (.ok d t) → s.ops64 = true → ∃ x, gives (.ldr rt base offset) x ∧
      ∀ i, i < 8 → dwordByte x i = if i < 8 - b8 then dwordByte d i else old i))

/-- Posted writes (R135, R138, R162, R163, R502, R515). A store elsewhere than to SDRAM completes when its write is posted behind the
others; while there is room nothing lands for it (its own write buffer beyond one entry: assumption log 66). A read waits: afterwards no
write of its side is posted, and what is posted has kept its order; after a read of an IBUS target, which flushes the command buffer,
none is posted at all (R163 3, decision D18; assumption log 66); after a read of memory the write FIFO is empty and bus masters read
what the core reads. A write of SDRAM that leaves the command buffer enters the write FIFO. A write that lands in a reserved range sets
S_NSR.MAERR or IBERR; one of a reserved register is lost and sets CBERR; one of two words or a cache line to registers sets IRERR (R502
1), and that it is lost and may set CBERR beside IRERR is the model's choice (DESIGN CHOICE, assumption log 34); any other single write of
a register is its device's. Left out here: how writes of boot ROM and of the window onto the PCI bus land. -/
def Obligations.PostedWrites : Prop :=
  (∀ (rt base : Reg) (offset : Half) (s v : State) (pa : PAddr),
    let va := s.getReg base + offset.signExtend 64
    let x := s.getReg rt
    let b4 := va.toNat % 4
    let b8 := va.toNat % 8
    let posts (align lo n : Nat) (y : Nat) (i : Instr) : Prop :=
      s.dataTarget true align va = .ok { pa := pa, cached := false } v →
      v.regionAhead (foldAddress (inDoubleword pa lo)) ≠ .sdram →
      ∃ t d, exec i s = .next t ∧ d.toNat % 256 ^ n = y % 256 ^ n ∧
        WritesNothing { v.room with posted := v.room.posted ++ [.single (inDoubleword pa lo) n d] } t
    (v.posted.length < Config.writeBufferEntries + 5 → v.room = v) ∧
    posts 1 b8 1 x.toNat (.sb rt base offset) ∧ posts 2 b8 2 x.toNat (.sh rt base offset) ∧
    posts 4 b8 4 x.toNat (.sw rt base offset) ∧
    posts 1 (b8 / 4 * 4) (b4 + 1) ((s.word rt).toNat / 256 ^ (3 - b4)) (.swl rt base offset) ∧
    posts 1 b8 (4 - b4) x.toNat (.swr rt base offset) ∧
    (s.ops64 = true → posts 8 b8 8 x.toNat (.sd rt base offset) ∧
      posts 1 0 (b8 + 1) (x.toNat / 256 ^ (7 - b8)) (.sdl rt base offset) ∧
      posts 1 b8 (8 - b8) x.toNat (.sdr rt base offset))) ∧
  (∀ (s : State) (side : BusSide),
    (∃ k, (s.await side).posted = s.posted.drop k) ∧ (∀ w ∈ (s.await side).posted, w.side ≠ side) ∧
    SameMemory s (s.await side) ∧ (s.await .ibus).posted = [] ∧
    (s.await .memory).writeFifo = [] ∧ ∀ c, (s.await .memory).landedByte c = s.mem.byte c) ∧
  (∀ (s : State) (old : List Host.Cell), s.land (.memory old) = { s with writeFifo := old }) ∧
  (∀ (s : State) (pa : PAddr) (n : Nat) (x : Dword) (line : BitVec 128), 1 ≤ n → n ≤ 8 →
    let a := foldAddress pa
    let lands (t : State) : Prop := s.land (.single pa n x) = t
    let single := a % 4 + n ≤ 4
    let be := lanesOf a n
    let w : Word := BitVec.ofNat 32 (x.toNat * 256 ^ (a % 4))
    let m := { s with writeFifo := [] }
    let off (b : Block) : Nat := blockOffset b a
    ((s.region a = .memReserved ∨ s.region a = .romOutside) →
      lands (m.nmiCause nsrMAERR) ∧ s.land (.burst pa line) = m.nmiCause nsrMAERR) ∧
    (s.region a = .ibusReserved → lands (s.nmiCause nsrIBERR) ∧ s.land (.burst pa line) = s.nmiCause nsrIBERR) ∧
    (s.region a = .syscon →
      (single → s.sysconReserved (a % 0x1000 / 4 * 4) = true → lands (s.nmiCause nsrCBERR)) ∧
      (single → s.sysconReserved (a % 0x1000 / 4 * 4) = false → lands (s.writeSyscon (a % 0x1000 / 4 * 4) be w)) ∧
      (¬ single → ∃ c, lands (s.nmiCause (nsrIRERR ||| c)) ∧ c &&& nsrCBERR = c) ∧
      ∃ c, s.land (.burst pa line) = s.nmiCause (nsrIRERR ||| c) ∧ c &&& nsrCBERR = c) ∧
    (∀ b, s.region a = .block b →
      (single → s.blockReserved b (off b) = true → lands (s.nmiCause nsrCBERR)) ∧
      (single → s.blockReserved b (off b) = false → lands (s.writeBlock b (off b) be w)) ∧
      (¬ single → ∃ c, lands (s.nmiCause (nsrIRERR ||| c)) ∧ c &&& nsrCBERR = c) ∧
      ∃ c, s.land (.burst pa line) = s.nmiCause (nsrIRERR ||| c) ∧ c &&& nsrCBERR = c))

/-- A misaligned halfword, word or doubleword reference raises Address Error, AdEL for a load and AdES for a store, with nothing else
done (R103, R118, R221). What is said of CACHE, where CP0 is usable, are decisions of the spec and not the manual's words (DESIGN
CHOICE, assumption log 25): an address that is no multiple of 4 raises Address Error, AdEL, and a translation that raises an exception
raises it as for a load (decision D36 in R440), whatever the operation number, those outside the table among them (decision D37 in
R451). -/
def Obligations.MisalignedReferencesTrap : Prop :=
  ∀ (rt base : Reg) (offset : Half) (op : BitVec 5) (s : State),
    let va := s.getReg base + offset.signExtend 64
    let e (w : Bool) := Host.Outcome.next (s.takeException (.addressError w va))
    (va.toNat % 2 ≠ 0 → exec (.lh rt base offset) s = e false ∧ exec (.lhu rt base offset) s = e false ∧
      exec (.sh rt base offset) s = e true) ∧
    (va.toNat % 4 ≠ 0 → exec (.lw rt base offset) s = e false ∧ exec (.sw rt base offset) s = e true ∧
      (s.ops64 = true → exec (.lwu rt base offset) s = e false)) ∧
    (va.toNat % 8 ≠ 0 → s.ops64 = true → exec (.ld rt base offset) s = e false ∧ exec (.sd rt base offset) s = e true) ∧
    (va.toNat % 4 ≠ 0 → s.cop0Usable = true → exec (.cache op base offset) s = e false) ∧
    (va.toNat % 4 = 0 → s.cop0Usable = true → ∀ x u, s.translate false va = .raise x u →
      exec (.cache op base offset) s = .next (u.takeException x))

/-- The Watch exception (R134, R1152). A load or store whose checks pass so far is watched if WatchLo.R or W is set for its kind and
the physical doubleword is WatchLo's: it raises the exception; while EXL = 1 it goes on, and the exception is held pending. Whatever
exception its checks raise — Address Error, TLB or Watch — the load or store takes it and does nothing else. A pending Watch exception
is taken by the next step that begins with EXL = 0 (decision D34). -/
def Obligations.WatchException : Prop :=
  (∀ (s : State) (w : Bool) (n : Nat) (va : Dword) (t : Target), va.toNat % n = 0 → s.translate w va = .ok t s →
    let watched := s.cp0.watchLo.getLsbD (if w then 0 else 1) = true ∧ t.pa.toNat / 8 = s.cp0.watchLo.toNat / 8
    (¬ watched → s.dataTarget w n va = .ok t s) ∧
    (watched → s.exl = false → s.dataTarget w n va = .raise .watch s) ∧
    (watched → s.exl = true → s.dataTarget w n va = .ok t { s with watchPending := true })) ∧
  (∀ (rt base : Reg) (offset : Half) (s u : State) (n : Nat) (e : Exc),
    let va := s.getReg base + offset.signExtend 64
    (s.dataTarget false n va = .raise e u → ∀ i ∈ loadForms s.ops64 rt base offset n, exec i s = .next (u.takeException e)) ∧
    (s.dataTarget true n va = .raise e u → ∀ i ∈ storeForms s.ops64 rt base offset n, exec i s = .next (u.takeException e))) ∧
  (∀ s : State, s.syscon.resetRequest = false → s.power = .fullspeed → s.nmiPending = false → s.watchPending = true →
    s.exl = false → step s = .next (({ s with watchPending := false } : State).takeException .watch).settle)

/-! ### Address translation -/

/-- The segments of every mode (R106–R113, R121). `a` is the address as a number, `tlb` that the TLB translates it, `error` Address
Error. With 32-bit addressing: kuseg — unmapped and uncached in Kernel mode with ERL = 1 —, kseg0 with Config.K0, kseg1, ksseg, kseg3;
suseg, sseg; useg. An address that is not a sign-extended word raises Address Error (decision D13; DESIGN CHOICE, assumption log 12).
With 64-bit addressing: the user segment of 2^40 bytes, xsseg, xkphys, xkseg, and the compatibility segments. -/
def Obligations.Segments : Prop :=
  ∀ (s : State) (w : Bool) (va : Dword),
    let tlb : Prop := s.translate w va = s.tlbTranslate w va
    let error : Prop := s.translate w va = .raise (.addressError w va) s
    let direct (pa : Nat) (cached : Bool) : Prop := s.translate w va = .ok { pa := BitVec.ofNat 32 pa, cached := cached } s
    let k0 := s.cp0.config.extractLsb' 0 3 != 2
    let a32 := va.toNat % 2 ^ 32
    let a := va.toNat
    let lowest (erl : Bool) (n : Nat) : Prop := if erl then direct n false else tlb
    let kernel := s.mode = .kernel
    let supervisor := s.mode = .supervisor
    let user := s.mode = .user
    (s.is64bitMode = false →
      (va ≠ (va.setWidth 32).signExtend 64 → error) ∧
      (va = (va.setWidth 32).signExtend 64 →
        (a32 < 0x8000_0000 → if kernel then lowest s.erl a32 else tlb) ∧
        (0x8000_0000 ≤ a32 → a32 < 0xA000_0000 → if kernel then direct (a32 - 0x8000_0000) k0 else error) ∧
        (0xA000_0000 ≤ a32 → a32 < 0xC000_0000 → if kernel then direct (a32 - 0xA000_0000) false else error) ∧
        (0xC000_0000 ≤ a32 → a32 < 0xE000_0000 → if user then error else tlb) ∧
        (0xE000_0000 ≤ a32 → if kernel then tlb else error))) ∧
    (s.is64bitMode = true →
      (a < 0x8000_0000 → if kernel then lowest s.erl a else tlb) ∧
      (0x8000_0000 ≤ a → a < 0x0000_0100_0000_0000 → tlb) ∧
      (0x0000_0100_0000_0000 ≤ a → a < 0x4000_0000_0000_0000 → error) ∧
      (user → 0x4000_0000_0000_0000 ≤ a → error) ∧
      (¬ user → 0x4000_0000_0000_0000 ≤ a → a < 0x4000_0100_0000_0000 → tlb) ∧
      (¬ user → 0x4000_0100_0000_0000 ≤ a → a < 0x8000_0000_0000_0000 → error) ∧
      (supervisor → 0x8000_0000_0000_0000 ≤ a → a < 0xFFFF_FFFF_C000_0000 → error) ∧
      (supervisor → 0xFFFF_FFFF_C000_0000 ≤ a → a < 0xFFFF_FFFF_E000_0000 → tlb) ∧
      (supervisor → 0xFFFF_FFFF_E000_0000 ≤ a → error) ∧
      (kernel → 0x8000_0000_0000_0000 ≤ a → a < 0xC000_0000_0000_0000 →
        if a % 0x0800_0000_0000_0000 < 0x1_0000_0000 then direct a32 (a / 0x0800_0000_0000_0000 != 18) else error) ∧
      (kernel → 0xC000_0000_0000_0000 ≤ a → a < 0xC000_00FF_8000_0000 → tlb) ∧
      (kernel → 0xC000_00FF_8000_0000 ≤ a → a < 0xFFFF_FFFF_8000_0000 → error) ∧
      (kernel → 0xFFFF_FFFF_8000_0000 ≤ a → a < 0xFFFF_FFFF_A000_0000 → direct (a - 0xFFFF_FFFF_8000_0000) k0) ∧
      (kernel → 0xFFFF_FFFF_A000_0000 ≤ a → a < 0xFFFF_FFFF_C000_0000 → direct (a - 0xFFFF_FFFF_A000_0000) false) ∧
      (kernel → 0xFFFF_FFFF_C000_0000 ≤ a → tlb))

/-- The TLB decides by its matching entries (R66, R116): none raises TLB Refill; one gives the page, TLB Invalid, or for a write to a
page that is not dirty TLB Modified; several shut the TLB down, and that they, and every reference after that, miss is decision D12
(DESIGN CHOICE, assumption log 11). An entry matches if it is global or has the current ASID, and its VPN2 agrees with the address in
every bit that MASK does not take out: bits 31:11 of the address with 32-bit addressing; with 64-bit addressing bits 39:11, and R with
bits 63:62. With each page size of Table 2-34 the address bit above the offset selects the odd page, and the physical address is PFN
above the offset; that the PFN bits below it are not used is decision D14 (DESIGN CHOICE, assumption log 28). -/
def Obligations.TlbDecides : Prop :=
  (∀ (e : TlbEntry) (x : Bool) (asid : Byte) (a : Dword),
    let agree (n : Nat) : Prop := ∀ i, i < n → e.mask.getLsbD i = false → a.getLsbD (11 + i) = e.vpn2.getLsbD i
    (e.hit x asid a = true ↔
      (e.g = true ∨ e.asid = asid) ∧ if x = true then a.toNat / 2 ^ 62 = e.r.toNat ∧ agree 29 else agree 21)) ∧
  (∀ (e : TlbEntry) (pfn : BitVec 22) (a : Dword) (k : Nat),
    (e.mask, k) ∈ ([(0x00, 0), (0x03, 1), (0x0F, 2), (0x3F, 3), (0xFF, 4)] : List (Byte × Nat)) →
      e.pageOf a = (if a.toNat / 2 ^ (10 + 2 * k) % 2 = 1 then e.page1 else e.page0) ∧
      (pageAddress e.mask pfn a).toNat = pfn.toNat / 4 ^ k * 2 ^ (10 + 2 * k) + a.toNat % 2 ^ (10 + 2 * k)) ∧
  ∀ (s : State) (w : Bool) (a : Dword),
    let miss := Res.raise (Exc.tlbRefill w a)
    (s.tlbShutdown = true → s.tlbTranslate w a = miss s) ∧
    (s.tlbShutdown = false → (∀ i : Fin 32, s.tlb[i].hit s.is64bitMode s.asid a = false) → s.tlbTranslate w a = miss s) ∧
    (∀ i : Fin 32, s.tlbShutdown = false → s.tlb[i].hit s.is64bitMode s.asid a = true →
      (∀ j : Fin 32, j ≠ i → s.tlb[j].hit s.is64bitMode s.asid a = false) →
      s.tlbTranslate w a =
        let p := s.tlb[i].pageOf a
        if p.v = false then .raise (.tlbInvalid w a) s
        else if w = true ∧ p.d = false then .raise (.mod a) s
        else .ok { pa := pageAddress s.tlb[i].mask p.pfn a, cached := p.c != 2 } s) ∧
    (∀ i j : Fin 32, i ≠ j → s.tlbShutdown = false → s.tlb[i].hit s.is64bitMode s.asid a = true →
      s.tlb[j].hit s.is64bitMode s.asid a = true →
      s.tlbTranslate w a = miss { s with tlbShutdown := true })

/-- No translation touches the offset in the smallest page (R116, R109): the low ten bits of the physical address are those of the
virtual address. -/
def Obligations.TranslationKeepsPageOffset : Prop :=
  ∀ (s u : State) (w : Bool) (a : Dword) (t : Target), s.translate w a = .ok t u →
    u = s ∧ t.pa.extractLsb' 0 10 = (a.extractLsb' 0 10 : BitVec 10)

/-! ### Jumps, branches, traps -/

/-- The jumps (R370–R373), outside a delay slot: the target is pending behind the delay slot; JAL and JALR write the address behind
the slot to r31 or rd, register 0 excepted. JALR with rd = rs has an undefined result (U36), but completes: some target is pending, rd
holds some value, and nothing else has changed. -/
def Obligations.Jumps : Prop :=
  ∀ (target : BitVec 26) (rd rs : Reg) (s : State), s.slot = .normal →
    let dest : Dword := BitVec.ofNat 64 ((s.pc + 4).toNat / 2 ^ 28 * 2 ^ 28 + 4 * target.toNat)
    (∃ t, exec (.j target) s = .next t ∧ SameRegisters s t ∧ Branches s t (s.pc + 4) (.delay (some dest))) ∧
    (∃ t, exec (.jal target) s = .next t ∧ LinksR31 s t ∧ Branches s t (s.pc + 4) (.delay (some dest))) ∧
    (∃ t, exec (.jr rs) s = .next t ∧ SameRegisters s t ∧ Branches s t (s.pc + 4) (.delay (some (s.getReg rs)))) ∧
    (rd ≠ rs → ∃ t, exec (.jalr rd rs) s = .next t ∧
      (∀ q, t.getReg q = if q = 0 then 0 else if q = rd then s.pc + 8 else s.getReg q) ∧
      Branches s t (s.pc + 4) (.delay (some (s.getReg rs)))) ∧
    (∃ t x, exec (.jalr rs rs) s = .next t ∧ (∀ q, q ≠ rs → t.getReg q = s.getReg q) ∧ t.getReg 0 = 0 ∧
      t.pc = s.pc + 4 ∧ t.slot = .delay (some x) ∧ t.cp0 = { s.cp0 with random := s.cp0.nextRandom } ∧
      t.hi = s.hi ∧ t.lo = s.lo ∧ SameMemory s t ∧ SameOutsideCore s t)

/-- The conditional branches that write no register (R362, R378, R380–R391, R396–R399), outside a delay slot: condition, target, and
what the likely forms do when not taken. Registers are compared and
tested with all 64 bits in every mode (decision D29 in R362; DESIGN CHOICE, assumption log 13). The coprocessor 0
branches test Status.CH where CP0 is usable. -/
def Obligations.ConditionalBranches : Prop :=
  (∀ (rs rt : Reg) (offset : Half) (s : State), s.slot = .normal →
      let dest := s.pc + 4 + BitVec.ofInt 64 (4 * offset.toInt)
      let x := (s.getReg rs).toInt
      let eq := decide (s.getReg rs = s.getReg rt)
      (∃ t, exec (.beq rs rt offset) s = .next t ∧ BranchesTo s t eq false dest) ∧
      (∃ t, exec (.bne rs rt offset) s = .next t ∧ BranchesTo s t (!eq) false dest) ∧
      (∃ t, exec (.blez rs offset) s = .next t ∧ BranchesTo s t (decide (x ≤ 0)) false dest) ∧
      (∃ t, exec (.bgtz rs offset) s = .next t ∧ BranchesTo s t (decide (0 < x)) false dest) ∧
      (∃ t, exec (.bltz rs offset) s = .next t ∧ BranchesTo s t (decide (x < 0)) false dest) ∧
      (∃ t, exec (.bgez rs offset) s = .next t ∧ BranchesTo s t (decide (0 ≤ x)) false dest) ∧
      (∃ t, exec (.beql rs rt offset) s = .next t ∧ BranchesTo s t eq true dest) ∧
      (∃ t, exec (.bnel rs rt offset) s = .next t ∧ BranchesTo s t (!eq) true dest) ∧
      (∃ t, exec (.blezl rs offset) s = .next t ∧ BranchesTo s t (decide (x ≤ 0)) true dest) ∧
      (∃ t, exec (.bgtzl rs offset) s = .next t ∧ BranchesTo s t (decide (0 < x)) true dest) ∧
      (∃ t, exec (.bltzl rs offset) s = .next t ∧ BranchesTo s t (decide (x < 0)) true dest) ∧
      (∃ t, exec (.bgezl rs offset) s = .next t ∧ BranchesTo s t (decide (0 ≤ x)) true dest)) ∧
  (∀ (offset : Half) (s : State), s.slot = .normal → s.cop0Usable = true →
      let dest := s.pc + 4 + BitVec.ofInt 64 (4 * offset.toInt)
      let ch := s.cp0.status.getLsbD 18
      (∃ t, exec (.bc0f offset) s = .next t ∧ BranchesTo s t (!ch) false dest) ∧
      (∃ t, exec (.bc0t offset) s = .next t ∧ BranchesTo s t ch false dest) ∧
      (∃ t, exec (.bc0fl offset) s = .next t ∧ BranchesTo s t (!ch) true dest) ∧
      (∃ t, exec (.bc0tl offset) s = .next t ∧ BranchesTo s t ch true dest))

/-- The branches that link (R392–R395), outside a delay slot: r31 takes the address behind the slot whether or not the branch is
taken; the condition tests bit 63 of rs as it was before, r31 included, in every mode (decision D29 in R362; DESIGN CHOICE,
assumption log 13). -/
def Obligations.LinkingBranches : Prop :=
  ∀ (rs : Reg) (offset : Half) (s : State), s.slot = .normal →
    let dest := s.pc + 4 + BitVec.ofInt 64 (4 * offset.toInt)
    let neg := decide ((s.getReg rs).toInt < 0)
    let goes (t : State) (taken likely : Bool) : Prop := LinksR31 s t ∧
      (if taken then Branches s t (s.pc + 4) (.delay (some dest))
       else if likely then Branches s t (s.pc + 8) .normal else Branches s t (s.pc + 4) (.delay none))
    (∃ t, exec (.bltzal rs offset) s = .next t ∧ goes t neg false) ∧
    (∃ t, exec (.bgezal rs offset) s = .next t ∧ goes t (!neg) false) ∧
    (∃ t, exec (.bltzall rs offset) s = .next t ∧ goes t neg true) ∧
    (∃ t, exec (.bgezall rs offset) s = .next t ∧ goes t (!neg) true)

/-- Delay slots (R360, R361): whatever instruction stands in the slot, when it goes on it has either completed the branch — execution
goes on at the pending target, or behind the slot if the branch was not taken — or raised an exception of its own, with the slot
as it was; one that completes is shown. Every jump and branch there, and ERET, stops with the fault of that name (U32: its result is
undefined). -/
def Obligations.DelaySlots : Prop :=
  ∀ (s : State) (x : Option Dword), s.slot = .delay x →
    (∀ (i : Instr) (t : State), exec i s = .next t →
      (t.pc = x.getD (s.pc + 4) ∧ t.slot = .normal) ∨ ∃ (u : State) (e : Exc), t = u.takeException e ∧ u.pc = s.pc ∧ u.slot = s.slot) ∧
    ∀ (rd rs rt : Reg) (offset : Half) (target : BitVec 26),
      (∃ t, exec (.addu rd rs rt) s = .next t ∧ t.pc = x.getD (s.pc + 4) ∧ t.slot = .normal) ∧
      (∀ i ∈ [Instr.j target, .jal target, .jr rs, .jalr rd rs, .beq rs rt offset, .bne rs rt offset, .blez rs offset,
          .bgtz rs offset, .beql rs rt offset, .bnel rs rt offset, .blezl rs offset, .bgtzl rs offset, .bltz rs offset,
          .bgez rs offset, .bltzl rs offset, .bgezl rs offset, .bltzal rs offset, .bgezal rs offset, .bltzall rs offset,
          .bgezall rs offset],
        exec i s = .fault .jumpInDelaySlot) ∧
      (s.cop0Usable = true → ∀ i ∈ [Instr.bc0f offset, .bc0t offset, .bc0fl offset, .bc0tl offset, .eret],
        exec i s = .fault .jumpInDelaySlot)

/-- SYSCALL and BREAK enter their exceptions (R402, R403), whatever their code field holds; SYNC does nothing (R404). -/
def Obligations.SystemCallAndBreakpoint : Prop :=
  ∀ (code : BitVec 20) (s : State),
    exec (.syscall code) s = .next (s.takeException .sys) ∧ exec (.brk code) s = .next (s.takeException .bp) ∧
    (∃ t, exec .sync s = .next t ∧ WritesNothing s t)

/-- The trap instructions (R405, R410–R421): a Trap exception if the condition holds, and no effect if it does not. -/
def Obligations.TrapInstructions : Prop :=
  ∀ (rs rt : Reg) (code : BitVec 10) (imm : Half) (s : State),
    let a := s.getReg rs
    let b := s.getReg rt
    let c : Dword := imm.signExtend 64
    let traps (i : Instr) (p : Prop) : Prop :=
      (p → exec i s = .next (s.takeException .tr)) ∧ (¬ p → ∃ t, exec i s = .next t ∧ WritesNothing s t)
    traps (.tge rs rt code) (b.toInt ≤ a.toInt) ∧ traps (.tgeu rs rt code) (b.toNat ≤ a.toNat) ∧
    traps (.tlt rs rt code) (a.toInt < b.toInt) ∧ traps (.tltu rs rt code) (a.toNat < b.toNat) ∧
    traps (.teq rs rt code) (a = b) ∧ traps (.tne rs rt code) (a ≠ b) ∧
    traps (.tgei rs imm) (imm.toInt ≤ a.toInt) ∧ traps (.tgeiu rs imm) (c.toNat ≤ a.toNat) ∧
    traps (.tlti rs imm) (a.toInt < imm.toInt) ∧ traps (.tltiu rs imm) (a.toNat < c.toNat) ∧
    traps (.teqi rs imm) (a = c) ∧ traps (.tnei rs imm) (a ≠ c)

/-- The encodings that only raise an exception: LL, LLD, SC, SCD and JALX raise Reserved Instruction (R184, R243, R377), the
instructions of coprocessors 1 and 2 raise Coprocessor Unusable with their number (R189; that those of coprocessor 2 do, with CE = 2,
is decision D25 in R184 and R189: DESIGN CHOICE, assumption log 19). No instruction at all are COP3 and the other major opcodes, the
SPECIAL functions and the REGIMM codes that the tables leave out (R184–R186), and, in a class of their own, the COP0 encodings that R187
leaves out; what the step does with them says `StepRunsDecodedInstruction`. -/
def Obligations.UnimplementedInstructionsTrap : Prop :=
  ∀ (rt base : Reg) (offset : Half) (rest : BitVec 26) (code : BitVec 20) (low : BitVec 19) (rs : Reg) (s : State),
    let ri := Host.Outcome.next (s.takeException .ri)
    let cpu (n : BitVec 2) := Host.Outcome.next (s.takeException (.cpu n))
    exec (.ll rt base offset) s = ri ∧ exec (.lld rt base offset) s = ri ∧ exec (.sc rt base offset) s = ri ∧
    exec (.scd rt base offset) s = ri ∧ exec (.jalx rest) s = ri ∧
    exec (.cop1 rest) s = cpu 1 ∧ exec (.lwc1 rt base offset) s = cpu 1 ∧ exec (.ldc1 rt base offset) s = cpu 1 ∧
    exec (.swc1 rt base offset) s = cpu 1 ∧ exec (.sdc1 rt base offset) s = cpu 1 ∧
    exec (.cop2 rest) s = cpu 2 ∧ exec (.lwc2 rt base offset) s = cpu 2 ∧ exec (.ldc2 rt base offset) s = cpu 2 ∧
    exec (.swc2 rt base offset) s = cpu 2 ∧ exec (.sdc2 rt base offset) s = cpu 2 ∧
    (∀ op ∈ ([0x13, 0x1C, 0x1E, 0x1F, 0x33, 0x3B] : List (BitVec 6)), decode (op ++ rest : BitVec 32) = .error .reserved) ∧
    (∀ f ∈ ([0x01, 0x05, 0x0A, 0x0B, 0x0E, 0x15, 0x35, 0x37, 0x39, 0x3D] : List (BitVec 6)),
      decode ((0#6 ++ code) ++ f : BitVec 32) = .error .reserved) ∧
    (∀ br ∈ ([0x04, 0x05, 0x06, 0x07, 0x0D, 0x0F] : List Reg),
      decode (((1#6 ++ rs) ++ br) ++ offset : BitVec 32) = .error .reserved) ∧
    (∀ br : Reg, 0x14 ≤ br.toNat → decode (((1#6 ++ rs) ++ br) ++ offset : BitVec 32) = .error .reserved) ∧
    (rs.toNat < 16 → rs ∉ ([0, 1, 4, 5, 8] : List Reg) →
      decode (((0x10#6 ++ rs) ++ rt) ++ offset : BitVec 32) = .error .reservedCop0) ∧
    (4 ≤ rt.toNat → decode (((0x10#6 ++ 8#5) ++ rt) ++ offset : BitVec 32) = .error .reservedCop0) ∧
    (∀ f : BitVec 6, f ∉ ([0x01, 0x02, 0x06, 0x08, 0x18, 0x21, 0x22, 0x23] : List (BitVec 6)) →
      decode (((0x10#6 ++ 1#1) ++ low) ++ f : BitVec 32) = .error .reservedCop0)

/-! ### Coprocessor 0 -/

/-- Moves from CP0 (R430, R432), where CP0 is usable: MFC0 writes the low word of the register as it reads, sign-extended; DMFC0,
where 64-bit operations are enabled, writes a 64-bit register whole; of a 32-bit register its result is undefined (U39), but it
completes. What each register reads, number by number; the numbers without a register (7, 21 to 25 and 31) read 0 (decision D11 in
R64; DESIGN CHOICE, assumption log 29). -/
def Obligations.MovesFromCp0 : Prop :=
  (∀ (rt rd : Reg) (s : State), s.cop0Usable = true →
      (∃ t, exec (.mfc0 rt rd) s = .next t ∧ WritesOnly s t rt (((s.readCp0 rd).setWidth 32).signExtend 64)) ∧
      (s.ops64 = true → cp0Is64 rd = true → ∃ t, exec (.dmfc0 rt rd) s = .next t ∧ WritesOnly s t rt (s.readCp0 rd)) ∧
      (s.ops64 = true → cp0Is64 rd = false → ∃ t x, exec (.dmfc0 rt rd) s = .next t ∧ WritesResults s t rt x s.hi s.lo)) ∧
  (∀ (rt : Reg) (s : State), s.cop0Usable = true →
      let word (n : Reg) (v : Word) : Prop :=
        (∃ t, exec (.mfc0 rt n) s = .next t ∧ WritesOnly s t rt (v.signExtend 64)) ∧
        (s.ops64 = true → ∃ t x, exec (.dmfc0 rt n) s = .next t ∧ WritesResults s t rt x s.hi s.lo)
      let dword (n : Reg) (v : Dword) : Prop :=
        (∃ t, exec (.mfc0 rt n) s = .next t ∧ WritesOnly s t rt ((v.setWidth 32).signExtend 64)) ∧
        (s.ops64 = true → ∃ t, exec (.dmfc0 rt n) s = .next t ∧ WritesOnly s t rt v)
      word 0 s.cp0.index ∧ word 1 (s.cp0.random.setWidth 32) ∧ dword 2 s.cp0.entryLo0 ∧ dword 3 s.cp0.entryLo1 ∧
      dword 4 s.cp0.context ∧ word 5 s.cp0.pageMask ∧ word 6 (s.cp0.wired.setWidth 32) ∧ dword 8 s.cp0.badVAddr ∧
      word 9 s.cp0.count ∧ dword 10 s.cp0.entryHi ∧ word 11 s.cp0.compare ∧ word 12 s.statusNow ∧ word 13 s.causeNow ∧
      dword 14 s.cp0.epc ∧ word 15 s.prid ∧ word 16 s.configNow ∧ word 17 s.cp0.llAddr ∧ word 18 s.cp0.watchLo ∧
      dword 20 s.cp0.xcontext ∧ word 26 s.cp0.perr ∧ word 28 s.cp0.tagLo ∧ dword 30 s.cp0.errorEpc ∧
      (∀ n : Reg, n ∈ ([7, 19, 21, 22, 23, 24, 25, 27, 29, 31] : List Reg) → word n 0))

/-- Moves to CP0 (R431, R433), where CP0 is usable: what each register reads afterwards, by its writable bits; registers that are
read-only or reserved keep their value. Random advances as with every instruction (it is 31 after a write of Wired), and nothing else
changes. That DMTC0 writes a 32-bit register as MTC0 does is decision D35 (DESIGN CHOICE, assumption log 23), that a register number
without a register ignores the write decision D11, and that Index.P is writable decision D39 (both assumption log 29). -/
def Obligations.MovesToCp0 : Prop :=
  ∀ (rt : Reg) (s : State) (i : Reg → Instr), s.cop0Usable = true →
    (i = (fun rd => .mtc0 rt rd) ∨ (s.ops64 = true ∧ i = fun rd => .dmtc0 rt rd)) →
    let v := s.getReg rt
    let w := s.word rt
    let after (n : Reg) (p : State → Prop) : Prop := ∃ t, exec (i n) s = .next t ∧ SameRegisters s t ∧ t.hi = s.hi ∧
      t.lo = s.lo ∧ t.free = s.free ∧ t.pc = s.nextPc ∧ t.slot = .normal ∧ SameMemory s t ∧ SameOutsideCore s t ∧ p t
    let random := s.cp0.nextRandom
    after 0 (fun t => t.cp0 = { s.cp0 with index := merge 0x8000_001F s.cp0.index w, random := random }) ∧
    after 2 (fun t => t.cp0 = { s.cp0 with entryLo0 := v &&& 0x0FFF_FFFF, random := random }) ∧
    after 3 (fun t => t.cp0 = { s.cp0 with entryLo1 := v &&& 0x0FFF_FFFF, random := random }) ∧
    after 4 (fun t => t.cp0 = { s.cp0 with context := merge 0xFFFF_FFFF_FE00_0000 s.cp0.context v, random := random }) ∧
    after 5 (fun t => t.cp0 = { s.cp0 with pageMask := w &&& 0x0007_F800, random := random }) ∧
    after 6 (fun t => t.cp0 = { s.cp0 with wired := w.setWidth 5, random := 31 }) ∧
    after 9 (fun t => t.cp0 = { s.cp0 with count := w, random := random }) ∧
    after 10 (fun t => t.cp0 = { s.cp0 with entryHi := v &&& 0xC000_00FF_FFFF_F8FF, random := random }) ∧
    after 11 (fun t => t.cp0 = { s.cp0 with compare := w, cause := s.cp0.cause &&& 0xFFFF_7FFF, random := random }) ∧
    after 12 (fun t => t.cp0 = { s.cp0 with status := w &&& 0x12D7_FFFF, random := random }) ∧
    after 13 (fun t => t.cp0 = { s.cp0 with cause := merge 0x0000_0300 s.cp0.cause w, random := random }) ∧
    after 14 (fun t => t.cp0 = { s.cp0 with epc := v, random := random }) ∧
    after 16 (fun t => t.cp0 = { s.cp0 with config := w &&& 0x0F80_0027, random := random }) ∧
    after 17 (fun t => t.cp0 = { s.cp0 with llAddr := w, random := random }) ∧
    after 18 (fun t => t.cp0 = { s.cp0 with watchLo := w &&& 0xFFFF_FFFB, random := random }) ∧
    after 20 (fun t => t.cp0 = { s.cp0 with xcontext := merge 0xFFFF_FFF8_0000_0000 s.cp0.xcontext v, random := random }) ∧
    after 26 (fun t => t.cp0 = { s.cp0 with perr := w &&& 0xFF, random := random }) ∧
    after 28 (fun t => t.cp0 = { s.cp0 with tagLo := w &&& 0xFFFF_FF80, random := random }) ∧
    after 30 (fun t => t.cp0 = { s.cp0 with errorEpc := v, random := random }) ∧
    (∀ n : Reg, n ∈ ([1, 7, 8, 15, 19, 21, 22, 23, 24, 25, 27, 29, 31] : List Reg) →
      after n (fun t => t.cp0 = { s.cp0 with random := random }))

/-- TLBWI, TLBWR and TLBR (R34, R434–R438), where CP0 is usable. With a page size of Table 2-34 in PageMask the entry that Index or
Random selects takes each of its fields from the registers — MASK, R, VPN2 without the masked bits, ASID, G if both EntryLo have it, and
PFN, C, D and V of both pages — and no other entry changes; the operation is undefined with any other MASK (U10) and stops with the
fault of that name (DESIGN CHOICE, assumption log 28). TLBR loads PageMask, EntryHi and EntryLo0/1 from the entry that Index selects,
whatever wrote it, and no other CP0 register changes but Random. An entry read back after TLBWI gives what was written: PageMask,
EntryHi without the masked bits, EntryLo0/1 with the common global bit. -/
def Obligations.TlbWriteThenRead : Prop :=
  ∀ s : State, s.cop0Usable = true →
    let same (s t : State) : Prop := SameRegisters s t ∧ t.hi = s.hi ∧ t.lo = s.lo ∧ t.free = s.free ∧ SameMemory s t ∧
      SameOutsideCore { s with tlb := t.tlb } t
    let mask : Byte := s.cp0.pageMask.extractLsb' 11 8
    let page (lo : Dword) : TlbPage :=
      { pfn := lo.extractLsb' 6 22, c := lo.extractLsb' 3 3, d := lo.getLsbD 2, v := lo.getLsbD 1 }
    let entry : TlbEntry :=
      { mask := mask, r := s.cp0.entryHi.extractLsb' 62 2, vpn2 := s.cp0.entryHi.extractLsb' 11 29 &&& ~~~(mask.setWidth 29)
        asid := s.cp0.entryHi.extractLsb' 0 8, g := s.cp0.entryLo0.getLsbD 0 && s.cp0.entryLo1.getLsbD 0
        page0 := page s.cp0.entryLo0, page1 := page s.cp0.entryLo1 }
    let writes (i : Instr) (n : Nat) : Prop := ∃ t, exec i s = .next t ∧ same s t ∧ Retired s t ∧
      ∀ j : Fin 32, t.tlb[j] = if j.val = n then entry else s.tlb[j]
    let index (s : State) : Fin 32 := Fin.ofNat 32 s.cp0.index.toNat
    let entryLo (p : TlbPage) (g : Bool) : Dword :=
      ((((0 : BitVec 36) ++ p.pfn) ++ p.c) ++ BitVec.ofBool p.d) ++ BitVec.ofBool p.v ++ BitVec.ofBool g
    let reads (s : State) (p : Cp0 → Cp0) : Prop := ∃ t, exec .tlbr s = .next t ∧ same s t ∧ t.tlb = s.tlb ∧ t.pc = s.nextPc ∧
      t.slot = .normal ∧ t.cp0 = { p s.cp0 with random := s.cp0.nextRandom }
    (pageMaskDefined mask = true → writes .tlbwi (index s).val ∧ writes .tlbwr s.cp0.random.toNat) ∧
    (pageMaskDefined mask = false → exec .tlbwi s = .fault .undefinedPageMask ∧ exec .tlbwr s = .fault .undefinedPageMask) ∧
    (let e := s.tlb[index s]
     reads s fun p => { p with
       pageMask := ((0 : BitVec 13) ++ e.mask) ++ (0 : BitVec 11)
       entryHi := (((e.r ++ (0 : BitVec 22)) ++ (e.vpn2 &&& ~~~(e.mask.setWidth 29))) ++ (0 : BitVec 3)) ++ e.asid
       entryLo0 := entryLo e.page0 e.g
       entryLo1 := entryLo e.page1 e.g }) ∧
    (pageMaskDefined mask = true → s.cp0.reservedZero = true → ∀ t, exec .tlbwi s = .next t →
      let g := s.cp0.entryLo0.getLsbD 0 && s.cp0.entryLo1.getLsbD 0
      reads t fun p => { p with
        pageMask := s.cp0.pageMask
        entryHi := s.cp0.entryHi &&& ~~~(mask.setWidth 64 <<< 11)
        entryLo0 := if g then s.cp0.entryLo0 else s.cp0.entryLo0 &&& ~~~1
        entryLo1 := if g then s.cp0.entryLo1 else s.cp0.entryLo1 &&& ~~~1 })

/-- TLBP (R435), where CP0 is usable and the TLB is not shut down: Index is the number of the one matching entry, with P = 0; without
a match P = 1. -/
def Obligations.TlbProbe : Prop :=
  ∀ s : State, s.cop0Usable = true → s.tlbShutdown = false →
    (∀ i : Fin 32, s.tlb[i].hit s.is64bitMode s.asid s.cp0.entryHi = true →
      (∀ j : Fin 32, j ≠ i → s.tlb[j].hit s.is64bitMode s.asid s.cp0.entryHi = false) →
      ∃ t, exec .tlbp s = .next t ∧ t.cp0 = { s.cp0 with index := BitVec.ofNat 32 i, random := s.cp0.nextRandom } ∧
        SameRegisters s t ∧ SameMemory s t ∧ t.pc = s.nextPc ∧ SameOutsideCore s t) ∧
    ((∀ i : Fin 32, s.tlb[i].hit s.is64bitMode s.asid s.cp0.entryHi = false) →
      ∃ t, exec .tlbp s = .next t ∧ t.cp0.index.getLsbD 31 = true ∧
        t.cp0 = { s.cp0 with index := t.cp0.index, random := s.cp0.nextRandom } ∧
        SameRegisters s t ∧ SameMemory s t ∧ t.pc = s.nextPc ∧ SameOutsideCore s t)

/-- ERET (R439), where CP0 is usable and outside a delay slot: through ErrorEPC with ERL cleared if ERL was 1, otherwise through EPC
with EXL cleared; no other bit of Status changes. It undoes exception entry (R1131): an instruction that was stopped by an exception
outside a delay slot with EXL = ERL = 0 is returned to, in the mode it had. -/
def Obligations.ReturnFromException : Prop :=
  (∀ s : State, s.cop0Usable = true → s.slot = .normal →
    ∃ t, exec .eret s = .next t ∧ t.slot = .normal ∧
      t.pc = (if s.erl then s.cp0.errorEpc else s.cp0.epc) ∧
      t.cp0 = { s.cp0 with
        random := s.cp0.nextRandom
        status := if s.erl then s.cp0.status &&& ~~~4 else s.cp0.status &&& ~~~2 } ∧
      SameRegisters s t ∧ t.hi = s.hi ∧ t.lo = s.lo ∧ SameMemory s t ∧ SameOutsideCore s t) ∧
  (∀ (s : State) (e : Exc), s.exl = false → s.erl = false → s.slot = .normal →
    ∃ t, exec .eret (s.takeException e) = .next t ∧ t.pc = s.pc ∧ t.slot = .normal ∧ t.cp0.status = s.cp0.status ∧
      t.mode = s.mode ∧ SameRegisters s t ∧ t.hi = s.hi ∧ t.lo = s.lo ∧ SameMemory s t)

/-- STANDBY, SUSPEND and HIBERNATE (R460–R462), where CP0 is usable: the SysAD bus becomes idle, which empties the core's internal write
buffer (`u`), the instruction completes, and the core is in the power mode it names; no register and no byte of memory changes. That the
four writes of the command buffer stay posted then is the model's choice: the manual does not speak of that buffer, and neither R162 nor
R460 says it (DESIGN CHOICE, assumption log 32). -/
def Obligations.PowerModeInstructions : Prop :=
  ∀ s : State, s.cop0Usable = true →
    let u := s.awaitSysAd
    let enters (i : Instr) (m : PowerMode) : Prop := ∃ t, exec i s = .next t ∧ t.power = m ∧
      WritesNothing u { t with power := u.power } ∧ SameRegisters s t ∧ t.hi = s.hi ∧ t.lo = s.lo ∧ SameMemory s t ∧
      Retired s t ∧ t.posted = s.posted.drop (s.posted.length - 4) ∧ t.posted.length ≤ 4
    enters .standby .standby ∧ enters .suspend .suspend ∧ enters .hibernate .hibernate

/-- The operations of CACHE that need no bus (R440–R448, R450), where CP0 is usable, the address is aligned and it translates to a
cached target: Index_Invalidate of the instruction cache; Index_Load_Tag and Index_Store_Tag of both caches; Hit_Invalidate of both;
Index_Write_Back_Invalidate of a line that is not dirty; Create_Dirty_Exclusive on a hit or over a line that is not dirty, whose data
stay as they are in the array; the write-backs that hit a clean line; the Hit operations that miss, which do nothing. The operation
numbers that the table leaves out do nothing (R451, decision D37; DESIGN CHOICE, assumption log 25). -/
def Obligations.CacheOperationsWithoutBus : Prop :=
  ∀ (base : Reg) (offset : Half) (s : State) (pa : PAddr),
    let va := s.getReg base + offset.signExtend 64
    s.cop0Usable = true → s.canonical = true → va.toNat % 4 = 0 →
    s.translate false va = .ok { pa := pa, cached := true } s →
    let d := s.dLine (dIndex va)
    let i := s.iLine (iIndex va)
    let tag := s.cp0.tagLo
    let done (op : BitVec 5) (t : State) : Prop := exec (.cache op base offset) s = .next t ∧ SameRegisters s t ∧
      t.hi = s.hi ∧ t.lo = s.lo ∧ t.free = s.free ∧ SameMemory s t ∧ t.pc = s.nextPc ∧ t.slot = .normal ∧ SameBesidesCaches s t ∧
      t.cp0 = { s.cp0 with tagLo := t.cp0.tagLo, random := s.cp0.nextRandom }
    let keepsTag (t : State) : Prop := t.cp0.tagLo = s.cp0.tagLo
    let dataLine (t : State) (l : DLine) : Prop := t.dLine (dIndex va) = l ∧ (∀ j, j ≠ dIndex va → t.dLine j = s.dLine j) ∧
      t.icache = s.icache ∧ keepsTag t
    let nothing (t : State) : Prop := t.icache = s.icache ∧ t.dcache = s.dcache ∧ keepsTag t
    let dirty := d.v = true ∧ d.w = true
    (∃ t, done 0 t ∧ t.iLine (iIndex va) = { i with v := false } ∧ (∀ j, j ≠ iIndex va → t.iLine j = s.iLine j) ∧
      t.dcache = s.dcache ∧ keepsTag t) ∧
    (∃ t, done 4 t ∧ t.cp0.tagLo.extractLsb' 10 22 = i.ptag ∧ t.cp0.tagLo.getLsbD 9 = i.v ∧
      t.cp0.tagLo.extractLsb' 0 9 = 0#9 ∧ t.icache = s.icache ∧ t.dcache = s.dcache) ∧
    (∃ t, done 5 t ∧ t.cp0.tagLo.extractLsb' 10 22 = d.ptag ∧ t.cp0.tagLo.getLsbD 9 = d.v ∧
      t.cp0.tagLo.getLsbD 8 = d.d ∧ t.cp0.tagLo.getLsbD 7 = d.w ∧ t.cp0.tagLo.extractLsb' 0 7 = 0#7 ∧ t.icache = s.icache ∧ t.dcache = s.dcache) ∧
    (∃ t, done 8 t ∧ t.iLine (iIndex va) = { i with ptag := tag.extractLsb' 10 22, v := tag.getLsbD 9 } ∧
      (∀ j, j ≠ iIndex va → t.iLine j = s.iLine j) ∧ t.dcache = s.dcache ∧ keepsTag t) ∧
    (∃ t, done 9 t ∧ t.dLine (dIndex va) =
        { d with ptag := tag.extractLsb' 10 22, v := tag.getLsbD 9, d := tag.getLsbD 8, w := tag.getLsbD 7 } ∧
      (∀ j, j ≠ dIndex va → t.dLine j = s.dLine j) ∧ t.icache = s.icache ∧ keepsTag t) ∧
    (i.hit pa = true → ∃ t, done 16 t ∧ t.iLine (iIndex va) = { i with v := false } ∧
      (∀ j, j ≠ iIndex va → t.iLine j = s.iLine j) ∧ t.dcache = s.dcache ∧ keepsTag t) ∧
    (i.hit pa = false → ∀ op ∈ [16, 24], ∃ t, done op t ∧ nothing t) ∧
    (¬ dirty → ∃ t, done 1 t ∧ dataLine t { d with v := false, w := false }) ∧
    (d.hit pa = true ∨ ¬ dirty → ∃ t, done 13 t ∧ dataLine t { d with ptag := tagOf pa, v := true, w := true }) ∧
    (d.hit pa = true → ∃ t, done 17 t ∧ dataLine t { d with v := false, w := false }) ∧
    (d.hit pa = true → d.w = false → (∃ t, done 21 t ∧ dataLine t { d with v := false }) ∧ ∃ t, done 25 t ∧ dataLine t d) ∧
    (d.hit pa = false → ∀ op ∈ [17, 21, 25], ∃ t, done op t ∧ nothing t) ∧
    (∀ op ∈ [2, 3, 6, 7, 10, 11, 12, 14, 15, 18, 19, 22, 23, 26, 27, 28, 29, 30, 31], ∃ t, done op t ∧ nothing t)

/-- The operations of CACHE that use the bus (R443, R446–R450), where CP0 is usable, the address is aligned and translates to a
cached target, and the home of the line is SDRAM. Of a dirty data line: Index_Write_Back_Invalidate, Create_Dirty_Exclusive on a miss,
Hit_Write_Back_Invalidate and Hit_Write_Back store its 16 bytes first; `u` is the state with room for the posted write (assumption log
66). Hit_Write_Back of the instruction cache stores its line unconditionally. Fill brings the 16 bytes of SDRAM around the address into
the instruction line, hit or not, once the posted writes of memory have landed; outside the boot ROM's configured size it raises
Instruction Bus Error and leaves the line Invalid. -/
def Obligations.CacheOperationsOnTheBus : Prop :=
  ∀ (base : Reg) (offset : Half) (s : State) (pa : PAddr),
    let va := s.getReg base + offset.signExtend 64
    s.cop0Usable = true → s.canonical = true → va.toNat % 4 = 0 →
    s.translate false va = .ok { pa := pa, cached := true } s →
    let d := s.dLine (dIndex va)
    let i := s.iLine (iIndex va)
    let dHome := foldAddress (writeBackAddress (dIndex va) d.ptag)
    let iHome := foldAddress (writeBackAddress (iIndex va) i.ptag)
    let src := foldAddress (lineBase pa)
    let u := s.room
    let w := s.await .memory
    let stores (op : BitVec 5) (home : Nat) (data : BitVec 128) (t : State) : Prop :=
      exec (.cache op base offset) s = .next t ∧ t.mem.read home 16 = data.toNat ∧
      (∀ c, c < home ∨ home + 16 ≤ c → t.mem.byte c = s.mem.byte c) ∧
      t.posted = u.posted ++ [.memory (s.mem.cells home 16)] ∧ SameRegisters s t ∧ t.hi = s.hi ∧ t.lo = s.lo ∧
      t.free = u.free ∧ Retired s t ∧ SameBesidesCaches { u with posted := t.posted } t
    let storesData (op : BitVec 5) (l : DLine) : Prop := ∃ t, stores op dHome d.data t ∧ t.dLine (dIndex va) = l ∧
      (∀ j, j ≠ dIndex va → t.dLine j = s.dLine j) ∧ t.icache = s.icache
    let instructionLine (t : State) (l : ILine) : Prop := t.iLine (iIndex va) = l ∧
      (∀ j, j ≠ iIndex va → t.iLine j = s.iLine j) ∧ t.dcache = s.dcache
    (d.v = true → d.w = true → s.regionAhead dHome = .sdram →
      storesData 1 { d with v := false, w := false } ∧
      (d.hit pa = false → storesData 13 { d with ptag := tagOf pa }) ∧
      (d.hit pa = true → storesData 21 { d with v := false, w := false } ∧ storesData 25 { d with w := false })) ∧
    (i.hit pa = true → s.regionAhead iHome = .sdram →
      ∃ t, stores 24 iHome i.data t ∧ t.icache = s.icache ∧ t.dcache = s.dcache) ∧
    (w.region src = .sdram → ∃ t, exec (.cache 20 base offset) s = .next t ∧
      instructionLine t { data := BitVec.ofNat 128 (s.mem.read src 16), ptag := tagOf pa, v := true } ∧ SameMemory s t ∧
      SameRegisters s t ∧ t.hi = s.hi ∧ t.lo = s.lo ∧ t.free = w.free ∧ Retired s t ∧ SameBesidesCaches w t) ∧
    (w.region src = .romOutside → ∃ t, exec (.cache 20 base offset) s = .next (t.takeException .ibe) ∧
      instructionLine t { i with v := false } ∧ t = { w.nmiCause nsrMAERR with icache := t.icache })

/-- The mode checks that come before anything else an instruction does: outside Kernel mode with CU0 = 0 every CP0 instruction
raises Coprocessor Unusable with Cause.CE = 0 (R188, R470); where 64-bit operations are not enabled every 64-bit instruction raises Reserved
Instruction (R57, R1147), DMFC0 and DMTC0 after the test of coprocessor 0 (R432, R433). -/
def Obligations.ModeChecks : Prop :=
  ∀ (a b c : Reg) (sa : BitVec 5) (imm : Half) (s : State),
    (s.mode ≠ .kernel → s.cu0 = false →
      ∀ i ∈ [Instr.mfc0 a b, .mtc0 a b, .dmfc0 a b, .dmtc0 a b, .tlbr, .tlbwi, .tlbwr, .tlbp, .eret, .standby, .suspend,
        .hibernate, .cache sa a imm, .bc0f imm, .bc0t imm, .bc0fl imm, .bc0tl imm],
        exec i s = .next (s.takeException (.cpu 0)) ∧ (s.takeException (.cpu 0)).cp0.cause.extractLsb' 28 2 = 0#2) ∧
    (s.ops64 = false →
      ∀ i ∈ [Instr.lwu a b imm, .ld a b imm, .ldl a b imm, .ldr a b imm, .sd a b imm, .sdl a b imm, .sdr a b imm,
        .daddi a b imm, .daddiu a b imm, .dadd a b c, .daddu a b c, .dsub a b c, .dsubu a b c, .dsll a b sa, .dsrl a b sa,
        .dsra a b sa, .dsllv a b c, .dsrlv a b c, .dsrav a b c, .dsll32 a b sa, .dsrl32 a b sa, .dsra32 a b sa, .dmult a b,
        .dmultu a b, .ddiv a b, .ddivu a b, .dmacc a b c, .dmaccu a b c, .dmacchi a b c, .dmacchiu a b c, .dmaccs a b c,
        .dmaccus a b c, .dmacchis a b c, .dmacchius a b c],
        exec i s = .next (s.takeException .ri)) ∧
    (s.cop0Usable = true → s.ops64 = false →
      ∀ i ∈ [Instr.dmfc0 a b, .dmtc0 a b], exec i s = .next (s.takeException .ri))

/-! ### Devices -/

/-- The timers count clock by clock (R1014): `n` clocks at once are `n` single clocks, each of which decrements the counter or, at 0,
reloads it and signals a time-out. That the counter passes through 0 and is reloaded one clock later is decision D59 (DESIGN CHOICE,
assumption log 48). -/
def Obligations.TimerCountsClockByClock : Prop :=
  ∀ (m n : Nat) (c r : Word),
    timerCount 1 c r = (if c = 0 then (r, true) else (c - 1, false)) ∧
    timerCount (m + n) c r =
      ((timerCount n (timerCount m c r).1 r).1, (timerCount m c r).2 || (timerCount n (timerCount m c r).1 r).2)

/-- A load of a read-clear register returns its value and clears it (R521, R531, R607, R736, R910): S_ISR and S_NSR in the bytes
read (decision D21 in R502; DESIGN CHOICE, assumption log 37), A_GSR, E1_ISR and P_IGSR whole. -/
def Obligations.ReadClearRegisters : Prop :=
  ∀ (y : Syscon) (a : Atm) (e : Eth) (p : Pci) (clksl endcen nic : Bool) (be : Lanes),
    y.read clksl endcen 0x008 be = { dev := { y with isr := y.isr &&& ~~~be.mask }, data := some y.isr } ∧
    y.read clksl endcen 0x010 be = { dev := { y with nsr := y.nsr &&& ~~~be.mask }, data := some y.nsr } ∧
    a.read 0xF004 0xF = { dev := { a with gsr := 0 }, data := some a.gsr } ∧
    (e.read 0x238 0xF).data = some e.isr ∧ (e.read 0x238 0xF).dev.isr = 0 ∧
    (p.read nic 0x1C 0xF).data = some (p.igsrNow nic) ∧ (p.read nic 0x1C 0xF).dev.igsr = 0

/-- A source of S_ISR sets its bit when it rises, and only then (R521, decision D20): a source that stays asserted does not set a
bit that a read has cleared. -/
def Obligations.InterruptSourcesAreCapturedOnEdges : Prop :=
  ∀ (y : Syscon) (src : Word) (n : Nat), n ∈ [2, 3, 16, 17] →
    ((y.capture src).isr.getLsbD n = (y.isr.getLsbD n || (src.getLsbD n && !y.sources.getLsbD n))) ∧
    ((y.capture src).capture src).isr = (y.capture src).isr

/-- The interrupt lines and the timer interrupt. The lines reach Cause.IP6:IP2 (R520, R523, R524, R1164): USB, Ethernet #1, ATM, the system controller through its mask,
Ethernet #2 or PCI. That the PCI controller shares Int4 (IP6) with Ethernet #2 is decision D5 in R520 (DESIGN CHOICE, assumption log
39). In `n` pipeline cycles outside Hibernate Count advances by the number `m` of its increments that fall into them (R37, R1160; how
many cycles one takes is the board's: assumption log 9), and Cause.IP7 is set if one of them makes it equal to Compare, and otherwise
stays as it is (R39, R1160). -/
def Obligations.InterruptLines : Prop :=
  ∀ s : State,
    (∀ n : Nat, s.power ≠ .hibernate →
      let t := s.countTime n
      let m := (s.countPre + n) / max 1 s.board.countDiv
      t.cp0 = { s.cp0 with count := s.cp0.count + BitVec.ofNat 32 m, cause := t.cp0.cause } ∧
      (t.cp0.cause.getLsbD 15 = true ↔ s.cp0.cause.getLsbD 15 = true ∨
        ∃ k, 1 ≤ k ∧ k ≤ m ∧ s.cp0.count + BitVec.ofNat 32 k = s.cp0.compare) ∧
      ∀ j, j ≠ 15 → t.cp0.cause.getLsbD j = s.cp0.cause.getLsbD j) ∧
    s.causeNow.getLsbD 10 = s.usb.intr ∧ s.causeNow.getLsbD 11 = s.eth1.intr ∧ s.causeNow.getLsbD 12 = s.atm.intr ∧
    s.causeNow.getLsbD 13 = ((s.syscon.isr &&& s.syscon.imr &&& 0x1F) != 0) ∧
    s.causeNow.getLsbD 14 = (s.eth2.intr || s.pci.intr s.board.nic) ∧
    ∀ n, n < 10 ∨ 15 ≤ n → s.causeNow.getLsbD n = s.cp0.cause.getLsbD n
end

