-- ==== Sys2Proof/Laws/Cells.lean ====
section
/-! SUPPORT. The laws of sparse maps: reading after writing, and the canonical form. -/
namespace Sys2Proof.Machine

variable {α : Type} [DecidableEq α] {d : α}

omit [DecidableEq α] in
@[simp] theorem cellGet_nil (a : Nat) : cellGet d [] a = d := rfl

@[simp] theorem cellWf_nil (lo : Nat) : cellWf d lo [] = true := rfl

theorem cellWf_cons {lo k : Nat} {v : α} {l : List (Nat × α)} :
    cellWf d lo ((k, v) :: l) = true ↔ lo ≤ k ∧ v ≠ d ∧ cellWf d (k + 1) l = true := by
  simp [cellWf, and_assoc]

/-- A canonical list above a bound is canonical above every smaller bound. -/
theorem cellWf_mono {lo lo' : Nat} {l : List (Nat × α)} (h : cellWf d lo l = true) (hl : lo' ≤ lo) :
    cellWf d lo' l = true := by
  cases l with
  | nil => rfl
  | cons c l =>
    obtain ⟨k, v⟩ := c
    rw [cellWf_cons] at *
    exact ⟨hl.trans h.1, h.2⟩

/-- Below its bound a canonical list reads as the default. -/
theorem cellGet_below {lo a : Nat} {l : List (Nat × α)} (h : cellWf d lo l = true) (ha : a < lo) :
    cellGet d l a = d := by
  induction l generalizing lo with
  | nil => rfl
  | cons c l ih =>
    obtain ⟨k, v⟩ := c
    rw [cellWf_cons] at h
    rw [cellGet, if_neg (by omega)]
    exact ih h.2.2 (by omega)

omit [DecidableEq α] in
theorem cellGet_cellDrop_ne {l : List (Nat × α)} {a b : Nat} (h : b ≠ a) :
    cellGet d (cellDrop a l) b = cellGet d l b := by
  cases l with
  | nil => rfl
  | cons c l =>
    obtain ⟨k, v⟩ := c
    by_cases hk : a = k
    · simp [cellDrop, cellGet, hk, show b ≠ k from hk ▸ h]
    · simp [cellDrop, hk]

theorem cellWf_cellDrop {lo a : Nat} {l : List (Nat × α)} (h : cellWf d lo l = true) :
    cellWf d lo (cellDrop a l) = true := by
  cases l with
  | nil => rfl
  | cons c l =>
    obtain ⟨k, v⟩ := c
    have h' := cellWf_cons.mp h
    by_cases hk : a = k
    · simpa [cellDrop, hk] using cellWf_mono h'.2.2 (by omega)
    · simpa [cellDrop, hk] using h

/-- A write leaves every other key alone. -/
theorem cellGet_cellSet_ne {l : List (Nat × α)} {a b : Nat} {v : α} (h : b ≠ a) :
    cellGet d (cellSet d l a v) b = cellGet d l b := by
  induction l with
  | nil => by_cases hv : v = d <;> simp [cellSet, cellGet, hv, h]
  | cons c l ih =>
    obtain ⟨k, w⟩ := c
    rw [cellSet]
    split
    · simp only [cellGet, ih]
    · split
      · exact cellGet_cellDrop_ne h
      · rw [cellGet, if_neg h, cellGet_cellDrop_ne h]

/-- A read after a write to the same key gives the value written. -/
theorem cellGet_cellSet_same {lo : Nat} {l : List (Nat × α)} {a : Nat} {v : α} (h : cellWf d lo l = true) :
    cellGet d (cellSet d l a v) a = v := by
  induction l generalizing lo with
  | nil => by_cases hv : v = d <;> simp [cellSet, cellGet, hv]
  | cons c l ih =>
    obtain ⟨k, w⟩ := c
    have h' := cellWf_cons.mp h
    rw [cellSet]
    split
    · rw [cellGet, if_neg (by omega)]
      exact ih h'.2.2
    · split
      next hk hv =>
        subst hv
        by_cases hak : a = k
        · simpa [cellDrop, hak] using cellGet_below h'.2.2 (by omega)
        · simpa [cellDrop, hak, cellGet] using cellGet_below h'.2.2 (by omega)
      · simp [cellGet]

/-- A write keeps the canonical form. -/
theorem cellWf_cellSet {lo : Nat} {l : List (Nat × α)} {a : Nat} {v : α} (h : cellWf d lo l = true) (ha : lo ≤ a) :
    cellWf d lo (cellSet d l a v) = true := by
  induction l generalizing lo with
  | nil =>
    by_cases hv : v = d
    · simp [cellSet, hv]
    · simp [cellSet, cellWf, hv, ha]
  | cons c l ih =>
    obtain ⟨k, w⟩ := c
    have h' := cellWf_cons.mp h
    rw [cellSet]
    split
    · exact cellWf_cons.mpr ⟨h'.1, h'.2.1, ih h'.2.2 (by omega)⟩
    · split
      · exact cellWf_cellDrop h
      · refine cellWf_cons.mpr ⟨ha, ‹_›, ?_⟩
        by_cases hak : a = k
        · simpa [cellDrop, hak] using h'.2.2
        · simpa [cellDrop, hak] using cellWf_cons.mpr ⟨by omega, h'.2⟩

/-- Canonical lists with the same contents are the same list. -/
theorem cell_ext {lo : Nat} {l m : List (Nat × α)} (hl : cellWf d lo l = true) (hm : cellWf d lo m = true)
    (h : ∀ a, cellGet d l a = cellGet d m a) : l = m := by
  induction l generalizing lo m with
  | nil =>
    cases m with
    | nil => rfl
    | cons c m =>
      obtain ⟨k, v⟩ := c
      have := h k
      simp only [cellGet, if_true] at this
      exact absurd this.symm (cellWf_cons.mp hm).2.1
  | cons c l ih =>
    obtain ⟨k, v⟩ := c
    have hl' := cellWf_cons.mp hl
    cases m with
    | nil =>
      have := h k
      simp only [cellGet, if_true] at this
      exact absurd this hl'.2.1
    | cons c' m =>
      obtain ⟨k', v'⟩ := c'
      have hm' := cellWf_cons.mp hm
      have hkk : k = k' := by
        rcases lt_trichotomy k k' with hlt | heq | hgt
        · have := h k
          rw [cellGet, if_pos rfl, cellGet_below (cellWf_cons.mpr ⟨le_refl k', hm'.2⟩) hlt] at this
          exact absurd this hl'.2.1
        · exact heq
        · have := h k'
          rw [cellGet_below (cellWf_cons.mpr ⟨le_refl k, hl'.2⟩) hgt, cellGet, if_pos rfl] at this
          exact absurd this.symm hm'.2.1
      subst hkk
      have hv : v = v' := by simpa [cellGet] using h k
      subst hv
      refine congrArg _ (ih hl'.2.2 hm'.2.2 fun a => ?_)
      by_cases ha : a = k
      · subst ha
        rw [cellGet_below hl'.2.2 (by omega), cellGet_below hm'.2.2 (by omega)]
      · have := h a
        simpa [cellGet, ha] using this

end Sys2Proof.Machine
end

