-- ==== Sys2Proof/Laws/Memory.lean ====
section
/-! SUPPORT. The laws of main memory: what a read gives after a write, what a write leaves alone, and that every memory
operation keeps the canonical form. -/
namespace Sys2Proof.Machine

@[simp] theorem Memory.byte_setByte_same {m : Memory} (h : m.wf = true) (a : Nat) (b : Byte) :
    (m.setByte a b).byte a = b := cellGet_cellSet_same h

@[simp] theorem Memory.byte_setByte_ne (m : Memory) {a c : Nat} (b : Byte) (h : c ≠ a) :
    (m.setByte a b).byte c = m.byte c := cellGet_cellSet_ne h

theorem Memory.wf_setByte {m : Memory} (h : m.wf = true) (a : Nat) (b : Byte) : (m.setByte a b).wf = true :=
  cellWf_cellSet h (Nat.zero_le a)

/-- Equal contents in canonical form are equal memories. -/
theorem Memory.ext_byte {m n : Memory} (hm : m.wf = true) (hn : n.wf = true) (h : ∀ a, m.byte a = n.byte a) : m = n :=
  cell_ext hm hn h

theorem Memory.wf_write {m : Memory} (h : m.wf = true) (a n v : Nat) : (m.write a n v).wf = true := by
  induction n generalizing m a v with
  | zero => exact h
  | succ n ih => exact ih (Memory.wf_setByte h a _) (a + 1) (v / 256)

/-- A write leaves the bytes outside its range alone. -/
theorem Memory.byte_write_outside (m : Memory) (a n v : Nat) {c : Nat} (h : c < a ∨ a + n ≤ c) :
    (m.write a n v).byte c = m.byte c := by
  induction n generalizing m a v with
  | zero => rfl
  | succ n ih =>
    rw [Memory.write, ih _ _ _ (by omega)]
    exact Memory.byte_setByte_ne m _ (by omega)

/-- Byte `i` of a write is byte `i` of the number written. -/
theorem Memory.byte_write_inside {m : Memory} (h : m.wf = true) (a n v : Nat) {i : Nat} (hi : i < n) :
    (m.write a n v).byte (a + i) = BitVec.ofNat 8 (v / 256 ^ i) := by
  induction n generalizing m a v i with
  | zero => omega
  | succ n ih =>
    rw [Memory.write]
    cases i with
    | zero =>
      rw [Memory.byte_write_outside _ _ _ _ (by omega)]
      simpa using Memory.byte_setByte_same h a _
    | succ i =>
      rw [show a + (i + 1) = a + 1 + i by omega, ih (Memory.wf_setByte h a _) _ _ (by omega)]
      rw [Nat.div_div_eq_div_mul, pow_succ']

/-- A read depends on the bytes of its range only. -/
theorem Memory.read_congr {m n : Memory} (a k : Nat) (h : ∀ i, i < k → m.byte (a + i) = n.byte (a + i)) :
    m.read a k = n.read a k := by
  induction k generalizing a with
  | zero => rfl
  | succ k ih =>
    rw [Memory.read, Memory.read, show m.byte a = n.byte a from h 0 (by omega), ih]
    intro i hi
    have := h (i + 1) (by omega)
    rwa [show a + (i + 1) = a + 1 + i by omega] at this

/-- A read after a write of the same range gives the number written, cut to the range. -/
theorem Memory.read_write {m : Memory} (h : m.wf = true) (a n v : Nat) : (m.write a n v).read a n = v % 256 ^ n := by
  induction n generalizing m a v with
  | zero => simp [Memory.read, Nat.mod_one]
  | succ n ih =>
    have h0 : (m.write a (n + 1) v).byte a = BitVec.ofNat 8 v := by
      simpa using Memory.byte_write_inside h a (n + 1) v (i := 0) (by omega)
    rw [Memory.read, h0, Memory.write, ih (Memory.wf_setByte h a _)]
    rw [BitVec.toNat_ofNat, show (2 : Nat) ^ 8 = 256 from rfl, pow_succ', Nat.mod_mul (a := 256)]

/-- A read outside a written range is unchanged. -/
theorem Memory.read_write_outside (m : Memory) (a n v c k : Nat) (h : c + k ≤ a ∨ a + n ≤ c) :
    (m.write a n v).read c k = m.read c k :=
  Memory.read_congr c k fun i hi => Memory.byte_write_outside m a n v (by omega)

theorem Memory.read_lt (m : Memory) (a n : Nat) : m.read a n < 256 ^ n := by
  induction n generalizing a with
  | zero => simp [Memory.read]
  | succ n ih =>
    have h1 := ih (a + 1)
    have h2 := (m.byte a).isLt
    rw [Memory.read, pow_succ']
    omega

/-- Memory after reset is in canonical form. -/
theorem Memory.wf_reset : State.reset.mem.wf = true := rfl

end Sys2Proof.Machine
end

