-- ==== Sys2Proof/Laws/State.lean ====
section
/-! SUPPORT. What the operations on the state do to each field: one lemma per field and operation, so that no proof
unfolds a record update. -/
namespace Sys2Proof.Machine

variable (s : State)

/-! ### General registers -/

@[simp] theorem State.getReg_zero : s.getReg 0#5 = 0 := rfl

@[simp] theorem State.setReg_zero (v : Dword) : s.setReg 0#5 v = s := rfl

theorem State.getReg_ne_zero {r : Reg} (h : r ≠ 0) : s.getReg r = s.gpr[r.toNat]'r.isLt := if_neg h

theorem State.setReg_ne_zero {r : Reg} (h : r ≠ 0) (v : Dword) :
    s.setReg r v = { s with gpr := s.gpr.set r.toNat v r.isLt } := if_neg h

theorem State.getReg_setReg_same {r : Reg} (h : r ≠ 0) (v : Dword) : (s.setReg r v).getReg r = v := by
  rw [State.getReg_ne_zero _ h, State.setReg_ne_zero _ h]; exact Vector.getElem_set_self _

theorem State.getReg_setReg_ne {r q : Reg} (h : q ≠ r) (v : Dword) : (s.setReg r v).getReg q = s.getReg q := by
  by_cases hr : r = 0
  · rw [hr]; rfl
  · by_cases hq : q = 0
    · rw [hq]; rfl
    · rw [State.getReg_ne_zero _ hq, State.getReg_ne_zero _ hq, State.setReg_ne_zero _ hr]
      exact Vector.getElem_set_ne r.isLt q.isLt fun e => h (BitVec.eq_of_toNat_eq e.symm)

theorem State.getReg_setReg (r q : Reg) (v : Dword) :
    (s.setReg r v).getReg q = if q = 0 then 0 else if q = r then v else s.getReg q := by
  split
  next h => rw [h]; rfl
  next h0 =>
    split
    next h => subst h; exact State.getReg_setReg_same s h0 v
    next h => exact State.getReg_setReg_ne s h v

/-- A state with the same registers reads the same. -/
theorem State.getReg_congr {s t : State} (h : t.gpr = s.gpr) (r : Reg) : t.getReg r = s.getReg r := by
  unfold State.getReg; rw [h]

/-! ### setReg -/

@[simp] theorem State.setReg_hi (r : Reg) (v : Dword) : (s.setReg r v).hi = s.hi := by
  unfold State.setReg; split <;> rfl
@[simp] theorem State.setReg_lo (r : Reg) (v : Dword) : (s.setReg r v).lo = s.lo := by
  unfold State.setReg; split <;> rfl
@[simp] theorem State.setReg_pc (r : Reg) (v : Dword) : (s.setReg r v).pc = s.pc := by
  unfold State.setReg; split <;> rfl
@[simp] theorem State.setReg_slot (r : Reg) (v : Dword) : (s.setReg r v).slot = s.slot := by
  unfold State.setReg; split <;> rfl
@[simp] theorem State.setReg_cp0 (r : Reg) (v : Dword) : (s.setReg r v).cp0 = s.cp0 := by
  unfold State.setReg; split <;> rfl
@[simp] theorem State.setReg_tlb (r : Reg) (v : Dword) : (s.setReg r v).tlb = s.tlb := by
  unfold State.setReg; split <;> rfl
@[simp] theorem State.setReg_tlbShutdown (r : Reg) (v : Dword) : (s.setReg r v).tlbShutdown = s.tlbShutdown := by
  unfold State.setReg; split <;> rfl
@[simp] theorem State.setReg_icache (r : Reg) (v : Dword) : (s.setReg r v).icache = s.icache := by
  unfold State.setReg; split <;> rfl
@[simp] theorem State.setReg_dcache (r : Reg) (v : Dword) : (s.setReg r v).dcache = s.dcache := by
  unfold State.setReg; split <;> rfl
@[simp] theorem State.setReg_power (r : Reg) (v : Dword) : (s.setReg r v).power = s.power := by
  unfold State.setReg; split <;> rfl
@[simp] theorem State.setReg_nmiPending (r : Reg) (v : Dword) : (s.setReg r v).nmiPending = s.nmiPending := by
  unfold State.setReg; split <;> rfl
@[simp] theorem State.setReg_nmiLine (r : Reg) (v : Dword) : (s.setReg r v).nmiLine = s.nmiLine := by
  unfold State.setReg; split <;> rfl
@[simp] theorem State.setReg_watchPending (r : Reg) (v : Dword) : (s.setReg r v).watchPending = s.watchPending := by
  unfold State.setReg; split <;> rfl
@[simp] theorem State.setReg_mem (r : Reg) (v : Dword) : (s.setReg r v).mem = s.mem := by
  unfold State.setReg; split <;> rfl
@[simp] theorem State.setReg_posted (r : Reg) (v : Dword) : (s.setReg r v).posted = s.posted := by
  unfold State.setReg; split <;> rfl
@[simp] theorem State.setReg_writeFifo (r : Reg) (v : Dword) : (s.setReg r v).writeFifo = s.writeFifo := by
  unfold State.setReg; split <;> rfl
@[simp] theorem State.setReg_syscon (r : Reg) (v : Dword) : (s.setReg r v).syscon = s.syscon := by
  unfold State.setReg; split <;> rfl
@[simp] theorem State.setReg_uart (r : Reg) (v : Dword) : (s.setReg r v).uart = s.uart := by
  unfold State.setReg; split <;> rfl
@[simp] theorem State.setReg_timers (r : Reg) (v : Dword) : (s.setReg r v).timers = s.timers := by
  unfold State.setReg; split <;> rfl
@[simp] theorem State.setReg_microWire (r : Reg) (v : Dword) : (s.setReg r v).microWire = s.microWire := by
  unfold State.setReg; split <;> rfl
@[simp] theorem State.setReg_usb (r : Reg) (v : Dword) : (s.setReg r v).usb = s.usb := by
  unfold State.setReg; split <;> rfl
@[simp] theorem State.setReg_eth1 (r : Reg) (v : Dword) : (s.setReg r v).eth1 = s.eth1 := by
  unfold State.setReg; split <;> rfl
@[simp] theorem State.setReg_eth2 (r : Reg) (v : Dword) : (s.setReg r v).eth2 = s.eth2 := by
  unfold State.setReg; split <;> rfl
@[simp] theorem State.setReg_atm (r : Reg) (v : Dword) : (s.setReg r v).atm = s.atm := by
  unfold State.setReg; split <;> rfl
@[simp] theorem State.setReg_pci (r : Reg) (v : Dword) : (s.setReg r v).pci = s.pci := by
  unfold State.setReg; split <;> rfl
@[simp] theorem State.setReg_board (r : Reg) (v : Dword) : (s.setReg r v).board = s.board := by
  unfold State.setReg; split <;> rfl
@[simp] theorem State.setReg_countPre (r : Reg) (v : Dword) : (s.setReg r v).countPre = s.countPre := by
  unfold State.setReg; split <;> rfl
@[simp] theorem State.setReg_ibusPre (r : Reg) (v : Dword) : (s.setReg r v).ibusPre = s.ibusPre := by
  unfold State.setReg; split <;> rfl
@[simp] theorem State.setReg_free (r : Reg) (v : Dword) : (s.setReg r v).free = s.free := by
  unfold State.setReg; split <;> rfl
@[simp] theorem State.setReg_steps (r : Reg) (v : Dword) : (s.setReg r v).steps = s.steps := by
  unfold State.setReg; split <;> rfl
@[simp] theorem State.setReg_inputs (r : Reg) (v : Dword) : (s.setReg r v).inputs = s.inputs := by
  unfold State.setReg; split <;> rfl

/-! ### draw -/

@[simp] theorem State.draw_gpr : (s.draw.2).gpr = s.gpr := rfl
@[simp] theorem State.draw_hi : (s.draw.2).hi = s.hi := rfl
@[simp] theorem State.draw_lo : (s.draw.2).lo = s.lo := rfl
@[simp] theorem State.draw_pc : (s.draw.2).pc = s.pc := rfl
@[simp] theorem State.draw_slot : (s.draw.2).slot = s.slot := rfl
@[simp] theorem State.draw_cp0 : (s.draw.2).cp0 = s.cp0 := rfl
@[simp] theorem State.draw_tlb : (s.draw.2).tlb = s.tlb := rfl
@[simp] theorem State.draw_tlbShutdown : (s.draw.2).tlbShutdown = s.tlbShutdown := rfl
@[simp] theorem State.draw_icache : (s.draw.2).icache = s.icache := rfl
@[simp] theorem State.draw_dcache : (s.draw.2).dcache = s.dcache := rfl
@[simp] theorem State.draw_power : (s.draw.2).power = s.power := rfl
@[simp] theorem State.draw_nmiPending : (s.draw.2).nmiPending = s.nmiPending := rfl
@[simp] theorem State.draw_nmiLine : (s.draw.2).nmiLine = s.nmiLine := rfl
@[simp] theorem State.draw_watchPending : (s.draw.2).watchPending = s.watchPending := rfl
@[simp] theorem State.draw_mem : (s.draw.2).mem = s.mem := rfl
@[simp] theorem State.draw_posted : (s.draw.2).posted = s.posted := rfl
@[simp] theorem State.draw_writeFifo : (s.draw.2).writeFifo = s.writeFifo := rfl
@[simp] theorem State.draw_syscon : (s.draw.2).syscon = s.syscon := rfl
@[simp] theorem State.draw_uart : (s.draw.2).uart = s.uart := rfl
@[simp] theorem State.draw_timers : (s.draw.2).timers = s.timers := rfl
@[simp] theorem State.draw_microWire : (s.draw.2).microWire = s.microWire := rfl
@[simp] theorem State.draw_usb : (s.draw.2).usb = s.usb := rfl
@[simp] theorem State.draw_eth1 : (s.draw.2).eth1 = s.eth1 := rfl
@[simp] theorem State.draw_eth2 : (s.draw.2).eth2 = s.eth2 := rfl
@[simp] theorem State.draw_atm : (s.draw.2).atm = s.atm := rfl
@[simp] theorem State.draw_pci : (s.draw.2).pci = s.pci := rfl
@[simp] theorem State.draw_board : (s.draw.2).board = s.board := rfl
@[simp] theorem State.draw_countPre : (s.draw.2).countPre = s.countPre := rfl
@[simp] theorem State.draw_ibusPre : (s.draw.2).ibusPre = s.ibusPre := rfl
@[simp] theorem State.draw_steps : (s.draw.2).steps = s.steps := rfl
@[simp] theorem State.draw_inputs : (s.draw.2).inputs = s.inputs := rfl
@[simp] theorem State.draw_getReg (q : Reg) : (s.draw.2).getReg q = s.getReg q :=
  State.getReg_congr (by simp) q

/-! ### stepRandom -/

@[simp] theorem State.stepRandom_gpr : (s.stepRandom).gpr = s.gpr := rfl
@[simp] theorem State.stepRandom_hi : (s.stepRandom).hi = s.hi := rfl
@[simp] theorem State.stepRandom_lo : (s.stepRandom).lo = s.lo := rfl
@[simp] theorem State.stepRandom_pc : (s.stepRandom).pc = s.pc := rfl
@[simp] theorem State.stepRandom_slot : (s.stepRandom).slot = s.slot := rfl
@[simp] theorem State.stepRandom_tlb : (s.stepRandom).tlb = s.tlb := rfl
@[simp] theorem State.stepRandom_tlbShutdown : (s.stepRandom).tlbShutdown = s.tlbShutdown := rfl
@[simp] theorem State.stepRandom_icache : (s.stepRandom).icache = s.icache := rfl
@[simp] theorem State.stepRandom_dcache : (s.stepRandom).dcache = s.dcache := rfl
@[simp] theorem State.stepRandom_power : (s.stepRandom).power = s.power := rfl
@[simp] theorem State.stepRandom_nmiPending : (s.stepRandom).nmiPending = s.nmiPending := rfl
@[simp] theorem State.stepRandom_nmiLine : (s.stepRandom).nmiLine = s.nmiLine := rfl
@[simp] theorem State.stepRandom_watchPending : (s.stepRandom).watchPending = s.watchPending := rfl
@[simp] theorem State.stepRandom_mem : (s.stepRandom).mem = s.mem := rfl
@[simp] theorem State.stepRandom_posted : (s.stepRandom).posted = s.posted := rfl
@[simp] theorem State.stepRandom_writeFifo : (s.stepRandom).writeFifo = s.writeFifo := rfl
@[simp] theorem State.stepRandom_syscon : (s.stepRandom).syscon = s.syscon := rfl
@[simp] theorem State.stepRandom_uart : (s.stepRandom).uart = s.uart := rfl
@[simp] theorem State.stepRandom_timers : (s.stepRandom).timers = s.timers := rfl
@[simp] theorem State.stepRandom_microWire : (s.stepRandom).microWire = s.microWire := rfl
@[simp] theorem State.stepRandom_usb : (s.stepRandom).usb = s.usb := rfl
@[simp] theorem State.stepRandom_eth1 : (s.stepRandom).eth1 = s.eth1 := rfl
@[simp] theorem State.stepRandom_eth2 : (s.stepRandom).eth2 = s.eth2 := rfl
@[simp] theorem State.stepRandom_atm : (s.stepRandom).atm = s.atm := rfl
@[simp] theorem State.stepRandom_pci : (s.stepRandom).pci = s.pci := rfl
@[simp] theorem State.stepRandom_board : (s.stepRandom).board = s.board := rfl
@[simp] theorem State.stepRandom_countPre : (s.stepRandom).countPre = s.countPre := rfl
@[simp] theorem State.stepRandom_ibusPre : (s.stepRandom).ibusPre = s.ibusPre := rfl
@[simp] theorem State.stepRandom_free : (s.stepRandom).free = s.free := rfl
@[simp] theorem State.stepRandom_steps : (s.stepRandom).steps = s.steps := rfl
@[simp] theorem State.stepRandom_inputs : (s.stepRandom).inputs = s.inputs := rfl
@[simp] theorem State.stepRandom_getReg (q : Reg) : (s.stepRandom).getReg q = s.getReg q :=
  State.getReg_congr (by simp) q

/-! ### advance -/

@[simp] theorem State.advance_gpr : (s.advance).gpr = s.gpr := rfl
@[simp] theorem State.advance_hi : (s.advance).hi = s.hi := rfl
@[simp] theorem State.advance_lo : (s.advance).lo = s.lo := rfl
@[simp] theorem State.advance_cp0 : (s.advance).cp0 = s.cp0 := rfl
@[simp] theorem State.advance_tlb : (s.advance).tlb = s.tlb := rfl
@[simp] theorem State.advance_tlbShutdown : (s.advance).tlbShutdown = s.tlbShutdown := rfl
@[simp] theorem State.advance_icache : (s.advance).icache = s.icache := rfl
@[simp] theorem State.advance_dcache : (s.advance).dcache = s.dcache := rfl
@[simp] theorem State.advance_power : (s.advance).power = s.power := rfl
@[simp] theorem State.advance_nmiPending : (s.advance).nmiPending = s.nmiPending := rfl
@[simp] theorem State.advance_nmiLine : (s.advance).nmiLine = s.nmiLine := rfl
@[simp] theorem State.advance_watchPending : (s.advance).watchPending = s.watchPending := rfl
@[simp] theorem State.advance_mem : (s.advance).mem = s.mem := rfl
@[simp] theorem State.advance_posted : (s.advance).posted = s.posted := rfl
@[simp] theorem State.advance_writeFifo : (s.advance).writeFifo = s.writeFifo := rfl
@[simp] theorem State.advance_syscon : (s.advance).syscon = s.syscon := rfl
@[simp] theorem State.advance_uart : (s.advance).uart = s.uart := rfl
@[simp] theorem State.advance_timers : (s.advance).timers = s.timers := rfl
@[simp] theorem State.advance_microWire : (s.advance).microWire = s.microWire := rfl
@[simp] theorem State.advance_usb : (s.advance).usb = s.usb := rfl
@[simp] theorem State.advance_eth1 : (s.advance).eth1 = s.eth1 := rfl
@[simp] theorem State.advance_eth2 : (s.advance).eth2 = s.eth2 := rfl
@[simp] theorem State.advance_atm : (s.advance).atm = s.atm := rfl
@[simp] theorem State.advance_pci : (s.advance).pci = s.pci := rfl
@[simp] theorem State.advance_board : (s.advance).board = s.board := rfl
@[simp] theorem State.advance_countPre : (s.advance).countPre = s.countPre := rfl
@[simp] theorem State.advance_ibusPre : (s.advance).ibusPre = s.ibusPre := rfl
@[simp] theorem State.advance_free : (s.advance).free = s.free := rfl
@[simp] theorem State.advance_steps : (s.advance).steps = s.steps := rfl
@[simp] theorem State.advance_inputs : (s.advance).inputs = s.inputs := rfl
@[simp] theorem State.advance_getReg (q : Reg) : (s.advance).getReg q = s.getReg q :=
  State.getReg_congr (by simp) q

/-! ### retire -/

@[simp] theorem State.retire_gpr : (s.retire).gpr = s.gpr := rfl
@[simp] theorem State.retire_hi : (s.retire).hi = s.hi := rfl
@[simp] theorem State.retire_lo : (s.retire).lo = s.lo := rfl
@[simp] theorem State.retire_tlb : (s.retire).tlb = s.tlb := rfl
@[simp] theorem State.retire_tlbShutdown : (s.retire).tlbShutdown = s.tlbShutdown := rfl
@[simp] theorem State.retire_icache : (s.retire).icache = s.icache := rfl
@[simp] theorem State.retire_dcache : (s.retire).dcache = s.dcache := rfl
@[simp] theorem State.retire_power : (s.retire).power = s.power := rfl
@[simp] theorem State.retire_nmiPending : (s.retire).nmiPending = s.nmiPending := rfl
@[simp] theorem State.retire_nmiLine : (s.retire).nmiLine = s.nmiLine := rfl
@[simp] theorem State.retire_watchPending : (s.retire).watchPending = s.watchPending := rfl
@[simp] theorem State.retire_mem : (s.retire).mem = s.mem := rfl
@[simp] theorem State.retire_posted : (s.retire).posted = s.posted := rfl
@[simp] theorem State.retire_writeFifo : (s.retire).writeFifo = s.writeFifo := rfl
@[simp] theorem State.retire_syscon : (s.retire).syscon = s.syscon := rfl
@[simp] theorem State.retire_uart : (s.retire).uart = s.uart := rfl
@[simp] theorem State.retire_timers : (s.retire).timers = s.timers := rfl
@[simp] theorem State.retire_microWire : (s.retire).microWire = s.microWire := rfl
@[simp] theorem State.retire_usb : (s.retire).usb = s.usb := rfl
@[simp] theorem State.retire_eth1 : (s.retire).eth1 = s.eth1 := rfl
@[simp] theorem State.retire_eth2 : (s.retire).eth2 = s.eth2 := rfl
@[simp] theorem State.retire_atm : (s.retire).atm = s.atm := rfl
@[simp] theorem State.retire_pci : (s.retire).pci = s.pci := rfl
@[simp] theorem State.retire_board : (s.retire).board = s.board := rfl
@[simp] theorem State.retire_countPre : (s.retire).countPre = s.countPre := rfl
@[simp] theorem State.retire_ibusPre : (s.retire).ibusPre = s.ibusPre := rfl
@[simp] theorem State.retire_free : (s.retire).free = s.free := rfl
@[simp] theorem State.retire_steps : (s.retire).steps = s.steps := rfl
@[simp] theorem State.retire_inputs : (s.retire).inputs = s.inputs := rfl
@[simp] theorem State.retire_getReg (q : Reg) : (s.retire).getReg q = s.getReg q :=
  State.getReg_congr (by simp) q

/-! ### nmiCause -/

@[simp] theorem State.nmiCause_gpr (b : Word) : (s.nmiCause b).gpr = s.gpr := rfl
@[simp] theorem State.nmiCause_hi (b : Word) : (s.nmiCause b).hi = s.hi := rfl
@[simp] theorem State.nmiCause_lo (b : Word) : (s.nmiCause b).lo = s.lo := rfl
@[simp] theorem State.nmiCause_pc (b : Word) : (s.nmiCause b).pc = s.pc := rfl
@[simp] theorem State.nmiCause_slot (b : Word) : (s.nmiCause b).slot = s.slot := rfl
@[simp] theorem State.nmiCause_cp0 (b : Word) : (s.nmiCause b).cp0 = s.cp0 := rfl
@[simp] theorem State.nmiCause_tlb (b : Word) : (s.nmiCause b).tlb = s.tlb := rfl
@[simp] theorem State.nmiCause_tlbShutdown (b : Word) : (s.nmiCause b).tlbShutdown = s.tlbShutdown := rfl
@[simp] theorem State.nmiCause_icache (b : Word) : (s.nmiCause b).icache = s.icache := rfl
@[simp] theorem State.nmiCause_dcache (b : Word) : (s.nmiCause b).dcache = s.dcache := rfl
@[simp] theorem State.nmiCause_power (b : Word) : (s.nmiCause b).power = s.power := rfl
@[simp] theorem State.nmiCause_nmiPending (b : Word) : (s.nmiCause b).nmiPending = s.nmiPending := rfl
@[simp] theorem State.nmiCause_nmiLine (b : Word) : (s.nmiCause b).nmiLine = s.nmiLine := rfl
@[simp] theorem State.nmiCause_watchPending (b : Word) : (s.nmiCause b).watchPending = s.watchPending := rfl
@[simp] theorem State.nmiCause_mem (b : Word) : (s.nmiCause b).mem = s.mem := rfl
@[simp] theorem State.nmiCause_posted (b : Word) : (s.nmiCause b).posted = s.posted := rfl
@[simp] theorem State.nmiCause_writeFifo (b : Word) : (s.nmiCause b).writeFifo = s.writeFifo := rfl
@[simp] theorem State.nmiCause_uart (b : Word) : (s.nmiCause b).uart = s.uart := rfl
@[simp] theorem State.nmiCause_timers (b : Word) : (s.nmiCause b).timers = s.timers := rfl
@[simp] theorem State.nmiCause_microWire (b : Word) : (s.nmiCause b).microWire = s.microWire := rfl
@[simp] theorem State.nmiCause_usb (b : Word) : (s.nmiCause b).usb = s.usb := rfl
@[simp] theorem State.nmiCause_eth1 (b : Word) : (s.nmiCause b).eth1 = s.eth1 := rfl
@[simp] theorem State.nmiCause_eth2 (b : Word) : (s.nmiCause b).eth2 = s.eth2 := rfl
@[simp] theorem State.nmiCause_atm (b : Word) : (s.nmiCause b).atm = s.atm := rfl
@[simp] theorem State.nmiCause_pci (b : Word) : (s.nmiCause b).pci = s.pci := rfl
@[simp] theorem State.nmiCause_board (b : Word) : (s.nmiCause b).board = s.board := rfl
@[simp] theorem State.nmiCause_countPre (b : Word) : (s.nmiCause b).countPre = s.countPre := rfl
@[simp] theorem State.nmiCause_ibusPre (b : Word) : (s.nmiCause b).ibusPre = s.ibusPre := rfl
@[simp] theorem State.nmiCause_free (b : Word) : (s.nmiCause b).free = s.free := rfl
@[simp] theorem State.nmiCause_steps (b : Word) : (s.nmiCause b).steps = s.steps := rfl
@[simp] theorem State.nmiCause_inputs (b : Word) : (s.nmiCause b).inputs = s.inputs := rfl
@[simp] theorem State.nmiCause_getReg (b : Word) (q : Reg) : (s.nmiCause b).getReg q = s.getReg q :=
  State.getReg_congr (by simp) q

/-! ### setDLine -/

@[simp] theorem State.setDLine_gpr (i : Nat) (l : DLine) : (s.setDLine i l).gpr = s.gpr := rfl
@[simp] theorem State.setDLine_hi (i : Nat) (l : DLine) : (s.setDLine i l).hi = s.hi := rfl
@[simp] theorem State.setDLine_lo (i : Nat) (l : DLine) : (s.setDLine i l).lo = s.lo := rfl
@[simp] theorem State.setDLine_pc (i : Nat) (l : DLine) : (s.setDLine i l).pc = s.pc := rfl
@[simp] theorem State.setDLine_slot (i : Nat) (l : DLine) : (s.setDLine i l).slot = s.slot := rfl
@[simp] theorem State.setDLine_cp0 (i : Nat) (l : DLine) : (s.setDLine i l).cp0 = s.cp0 := rfl
@[simp] theorem State.setDLine_tlb (i : Nat) (l : DLine) : (s.setDLine i l).tlb = s.tlb := rfl
@[simp] theorem State.setDLine_tlbShutdown (i : Nat) (l : DLine) : (s.setDLine i l).tlbShutdown = s.tlbShutdown := rfl
@[simp] theorem State.setDLine_icache (i : Nat) (l : DLine) : (s.setDLine i l).icache = s.icache := rfl
@[simp] theorem State.setDLine_power (i : Nat) (l : DLine) : (s.setDLine i l).power = s.power := rfl
@[simp] theorem State.setDLine_nmiPending (i : Nat) (l : DLine) : (s.setDLine i l).nmiPending = s.nmiPending := rfl
@[simp] theorem State.setDLine_nmiLine (i : Nat) (l : DLine) : (s.setDLine i l).nmiLine = s.nmiLine := rfl
@[simp] theorem State.setDLine_watchPending (i : Nat) (l : DLine) : (s.setDLine i l).watchPending = s.watchPending := rfl
@[simp] theorem State.setDLine_mem (i : Nat) (l : DLine) : (s.setDLine i l).mem = s.mem := rfl
@[simp] theorem State.setDLine_posted (i : Nat) (l : DLine) : (s.setDLine i l).posted = s.posted := rfl
@[simp] theorem State.setDLine_writeFifo (i : Nat) (l : DLine) : (s.setDLine i l).writeFifo = s.writeFifo := rfl
@[simp] theorem State.setDLine_syscon (i : Nat) (l : DLine) : (s.setDLine i l).syscon = s.syscon := rfl
@[simp] theorem State.setDLine_uart (i : Nat) (l : DLine) : (s.setDLine i l).uart = s.uart := rfl
@[simp] theorem State.setDLine_timers (i : Nat) (l : DLine) : (s.setDLine i l).timers = s.timers := rfl
@[simp] theorem State.setDLine_microWire (i : Nat) (l : DLine) : (s.setDLine i l).microWire = s.microWire := rfl
@[simp] theorem State.setDLine_usb (i : Nat) (l : DLine) : (s.setDLine i l).usb = s.usb := rfl
@[simp] theorem State.setDLine_eth1 (i : Nat) (l : DLine) : (s.setDLine i l).eth1 = s.eth1 := rfl
@[simp] theorem State.setDLine_eth2 (i : Nat) (l : DLine) : (s.setDLine i l).eth2 = s.eth2 := rfl
@[simp] theorem State.setDLine_atm (i : Nat) (l : DLine) : (s.setDLine i l).atm = s.atm := rfl
@[simp] theorem State.setDLine_pci (i : Nat) (l : DLine) : (s.setDLine i l).pci = s.pci := rfl
@[simp] theorem State.setDLine_board (i : Nat) (l : DLine) : (s.setDLine i l).board = s.board := rfl
@[simp] theorem State.setDLine_countPre (i : Nat) (l : DLine) : (s.setDLine i l).countPre = s.countPre := rfl
@[simp] theorem State.setDLine_ibusPre (i : Nat) (l : DLine) : (s.setDLine i l).ibusPre = s.ibusPre := rfl
@[simp] theorem State.setDLine_free (i : Nat) (l : DLine) : (s.setDLine i l).free = s.free := rfl
@[simp] theorem State.setDLine_steps (i : Nat) (l : DLine) : (s.setDLine i l).steps = s.steps := rfl
@[simp] theorem State.setDLine_inputs (i : Nat) (l : DLine) : (s.setDLine i l).inputs = s.inputs := rfl
@[simp] theorem State.setDLine_getReg (i : Nat) (l : DLine) (q : Reg) : (s.setDLine i l).getReg q = s.getReg q :=
  State.getReg_congr (by simp) q

/-! ### setILine -/

@[simp] theorem State.setILine_gpr (i : Nat) (l : ILine) : (s.setILine i l).gpr = s.gpr := rfl
@[simp] theorem State.setILine_hi (i : Nat) (l : ILine) : (s.setILine i l).hi = s.hi := rfl
@[simp] theorem State.setILine_lo (i : Nat) (l : ILine) : (s.setILine i l).lo = s.lo := rfl
@[simp] theorem State.setILine_pc (i : Nat) (l : ILine) : (s.setILine i l).pc = s.pc := rfl
@[simp] theorem State.setILine_slot (i : Nat) (l : ILine) : (s.setILine i l).slot = s.slot := rfl
@[simp] theorem State.setILine_cp0 (i : Nat) (l : ILine) : (s.setILine i l).cp0 = s.cp0 := rfl
@[simp] theorem State.setILine_tlb (i : Nat) (l : ILine) : (s.setILine i l).tlb = s.tlb := rfl
@[simp] theorem State.setILine_tlbShutdown (i : Nat) (l : ILine) : (s.setILine i l).tlbShutdown = s.tlbShutdown := rfl
@[simp] theorem State.setILine_dcache (i : Nat) (l : ILine) : (s.setILine i l).dcache = s.dcache := rfl
@[simp] theorem State.setILine_power (i : Nat) (l : ILine) : (s.setILine i l).power = s.power := rfl
@[simp] theorem State.setILine_nmiPending (i : Nat) (l : ILine) : (s.setILine i l).nmiPending = s.nmiPending := rfl
@[simp] theorem State.setILine_nmiLine (i : Nat) (l : ILine) : (s.setILine i l).nmiLine = s.nmiLine := rfl
@[simp] theorem State.setILine_watchPending (i : Nat) (l : ILine) : (s.setILine i l).watchPending = s.watchPending := rfl
@[simp] theorem State.setILine_mem (i : Nat) (l : ILine) : (s.setILine i l).mem = s.mem := rfl
@[simp] theorem State.setILine_posted (i : Nat) (l : ILine) : (s.setILine i l).posted = s.posted := rfl
@[simp] theorem State.setILine_writeFifo (i : Nat) (l : ILine) : (s.setILine i l).writeFifo = s.writeFifo := rfl
@[simp] theorem State.setILine_syscon (i : Nat) (l : ILine) : (s.setILine i l).syscon = s.syscon := rfl
@[simp] theorem State.setILine_uart (i : Nat) (l : ILine) : (s.setILine i l).uart = s.uart := rfl
@[simp] theorem State.setILine_timers (i : Nat) (l : ILine) : (s.setILine i l).timers = s.timers := rfl
@[simp] theorem State.setILine_microWire (i : Nat) (l : ILine) : (s.setILine i l).microWire = s.microWire := rfl
@[simp] theorem State.setILine_usb (i : Nat) (l : ILine) : (s.setILine i l).usb = s.usb := rfl
@[simp] theorem State.setILine_eth1 (i : Nat) (l : ILine) : (s.setILine i l).eth1 = s.eth1 := rfl
@[simp] theorem State.setILine_eth2 (i : Nat) (l : ILine) : (s.setILine i l).eth2 = s.eth2 := rfl
@[simp] theorem State.setILine_atm (i : Nat) (l : ILine) : (s.setILine i l).atm = s.atm := rfl
@[simp] theorem State.setILine_pci (i : Nat) (l : ILine) : (s.setILine i l).pci = s.pci := rfl
@[simp] theorem State.setILine_board (i : Nat) (l : ILine) : (s.setILine i l).board = s.board := rfl
@[simp] theorem State.setILine_countPre (i : Nat) (l : ILine) : (s.setILine i l).countPre = s.countPre := rfl
@[simp] theorem State.setILine_ibusPre (i : Nat) (l : ILine) : (s.setILine i l).ibusPre = s.ibusPre := rfl
@[simp] theorem State.setILine_free (i : Nat) (l : ILine) : (s.setILine i l).free = s.free := rfl
@[simp] theorem State.setILine_steps (i : Nat) (l : ILine) : (s.setILine i l).steps = s.steps := rfl
@[simp] theorem State.setILine_inputs (i : Nat) (l : ILine) : (s.setILine i l).inputs = s.inputs := rfl
@[simp] theorem State.setILine_getReg (i : Nat) (l : ILine) (q : Reg) : (s.setILine i l).getReg q = s.getReg q :=
  State.getReg_congr (by simp) q

/-! ### takeException -/

@[simp] theorem State.takeException_gpr (e : Exc) : (s.takeException e).gpr = s.gpr := rfl
@[simp] theorem State.takeException_hi (e : Exc) : (s.takeException e).hi = s.hi := rfl
@[simp] theorem State.takeException_lo (e : Exc) : (s.takeException e).lo = s.lo := rfl
@[simp] theorem State.takeException_tlb (e : Exc) : (s.takeException e).tlb = s.tlb := rfl
@[simp] theorem State.takeException_tlbShutdown (e : Exc) : (s.takeException e).tlbShutdown = s.tlbShutdown := rfl
@[simp] theorem State.takeException_icache (e : Exc) : (s.takeException e).icache = s.icache := rfl
@[simp] theorem State.takeException_dcache (e : Exc) : (s.takeException e).dcache = s.dcache := rfl
@[simp] theorem State.takeException_power (e : Exc) : (s.takeException e).power = s.power := rfl
@[simp] theorem State.takeException_nmiPending (e : Exc) : (s.takeException e).nmiPending = s.nmiPending := rfl
@[simp] theorem State.takeException_nmiLine (e : Exc) : (s.takeException e).nmiLine = s.nmiLine := rfl
@[simp] theorem State.takeException_watchPending (e : Exc) : (s.takeException e).watchPending = s.watchPending := rfl
@[simp] theorem State.takeException_mem (e : Exc) : (s.takeException e).mem = s.mem := rfl
@[simp] theorem State.takeException_posted (e : Exc) : (s.takeException e).posted = s.posted := rfl
@[simp] theorem State.takeException_writeFifo (e : Exc) : (s.takeException e).writeFifo = s.writeFifo := rfl
@[simp] theorem State.takeException_syscon (e : Exc) : (s.takeException e).syscon = s.syscon := rfl
@[simp] theorem State.takeException_uart (e : Exc) : (s.takeException e).uart = s.uart := rfl
@[simp] theorem State.takeException_timers (e : Exc) : (s.takeException e).timers = s.timers := rfl
@[simp] theorem State.takeException_microWire (e : Exc) : (s.takeException e).microWire = s.microWire := rfl
@[simp] theorem State.takeException_usb (e : Exc) : (s.takeException e).usb = s.usb := rfl
@[simp] theorem State.takeException_eth1 (e : Exc) : (s.takeException e).eth1 = s.eth1 := rfl
@[simp] theorem State.takeException_eth2 (e : Exc) : (s.takeException e).eth2 = s.eth2 := rfl
@[simp] theorem State.takeException_atm (e : Exc) : (s.takeException e).atm = s.atm := rfl
@[simp] theorem State.takeException_pci (e : Exc) : (s.takeException e).pci = s.pci := rfl
@[simp] theorem State.takeException_board (e : Exc) : (s.takeException e).board = s.board := rfl
@[simp] theorem State.takeException_countPre (e : Exc) : (s.takeException e).countPre = s.countPre := rfl
@[simp] theorem State.takeException_ibusPre (e : Exc) : (s.takeException e).ibusPre = s.ibusPre := rfl
@[simp] theorem State.takeException_steps (e : Exc) : (s.takeException e).steps = s.steps := rfl
@[simp] theorem State.takeException_inputs (e : Exc) : (s.takeException e).inputs = s.inputs := rfl
@[simp] theorem State.takeException_getReg (e : Exc) (q : Reg) : (s.takeException e).getReg q = s.getReg q :=
  State.getReg_congr (by simp) q

/-! ### takeNmi -/

@[simp] theorem State.takeNmi_gpr : (s.takeNmi).gpr = s.gpr := rfl
@[simp] theorem State.takeNmi_hi : (s.takeNmi).hi = s.hi := rfl
@[simp] theorem State.takeNmi_lo : (s.takeNmi).lo = s.lo := rfl
@[simp] theorem State.takeNmi_tlb : (s.takeNmi).tlb = s.tlb := rfl
@[simp] theorem State.takeNmi_tlbShutdown : (s.takeNmi).tlbShutdown = s.tlbShutdown := rfl
@[simp] theorem State.takeNmi_icache : (s.takeNmi).icache = s.icache := rfl
@[simp] theorem State.takeNmi_dcache : (s.takeNmi).dcache = s.dcache := rfl
@[simp] theorem State.takeNmi_power : (s.takeNmi).power = s.power := rfl
@[simp] theorem State.takeNmi_nmiLine : (s.takeNmi).nmiLine = s.nmiLine := rfl
@[simp] theorem State.takeNmi_watchPending : (s.takeNmi).watchPending = s.watchPending := rfl
@[simp] theorem State.takeNmi_mem : (s.takeNmi).mem = s.mem := rfl
@[simp] theorem State.takeNmi_posted : (s.takeNmi).posted = s.posted := rfl
@[simp] theorem State.takeNmi_writeFifo : (s.takeNmi).writeFifo = s.writeFifo := rfl
@[simp] theorem State.takeNmi_syscon : (s.takeNmi).syscon = s.syscon := rfl
@[simp] theorem State.takeNmi_uart : (s.takeNmi).uart = s.uart := rfl
@[simp] theorem State.takeNmi_timers : (s.takeNmi).timers = s.timers := rfl
@[simp] theorem State.takeNmi_microWire : (s.takeNmi).microWire = s.microWire := rfl
@[simp] theorem State.takeNmi_usb : (s.takeNmi).usb = s.usb := rfl
@[simp] theorem State.takeNmi_eth1 : (s.takeNmi).eth1 = s.eth1 := rfl
@[simp] theorem State.takeNmi_eth2 : (s.takeNmi).eth2 = s.eth2 := rfl
@[simp] theorem State.takeNmi_atm : (s.takeNmi).atm = s.atm := rfl
@[simp] theorem State.takeNmi_pci : (s.takeNmi).pci = s.pci := rfl
@[simp] theorem State.takeNmi_board : (s.takeNmi).board = s.board := rfl
@[simp] theorem State.takeNmi_countPre : (s.takeNmi).countPre = s.countPre := rfl
@[simp] theorem State.takeNmi_ibusPre : (s.takeNmi).ibusPre = s.ibusPre := rfl
@[simp] theorem State.takeNmi_free : (s.takeNmi).free = s.free := rfl
@[simp] theorem State.takeNmi_steps : (s.takeNmi).steps = s.steps := rfl
@[simp] theorem State.takeNmi_inputs : (s.takeNmi).inputs = s.inputs := rfl
@[simp] theorem State.takeNmi_getReg (q : Reg) : (s.takeNmi).getReg q = s.getReg q :=
  State.getReg_congr (by simp) q

/-! ### returnFromException -/

@[simp] theorem State.returnFromException_gpr : (s.returnFromException).gpr = s.gpr := by
  unfold State.returnFromException; split <;> rfl
@[simp] theorem State.returnFromException_hi : (s.returnFromException).hi = s.hi := by
  unfold State.returnFromException; split <;> rfl
@[simp] theorem State.returnFromException_lo : (s.returnFromException).lo = s.lo := by
  unfold State.returnFromException; split <;> rfl
@[simp] theorem State.returnFromException_slot : (s.returnFromException).slot = s.slot := by
  unfold State.returnFromException; split <;> rfl
@[simp] theorem State.returnFromException_tlb : (s.returnFromException).tlb = s.tlb := by
  unfold State.returnFromException; split <;> rfl
@[simp] theorem State.returnFromException_tlbShutdown : (s.returnFromException).tlbShutdown = s.tlbShutdown := by
  unfold State.returnFromException; split <;> rfl
@[simp] theorem State.returnFromException_icache : (s.returnFromException).icache = s.icache := by
  unfold State.returnFromException; split <;> rfl
@[simp] theorem State.returnFromException_dcache : (s.returnFromException).dcache = s.dcache := by
  unfold State.returnFromException; split <;> rfl
@[simp] theorem State.returnFromException_power : (s.returnFromException).power = s.power := by
  unfold State.returnFromException; split <;> rfl
@[simp] theorem State.returnFromException_nmiPending : (s.returnFromException).nmiPending = s.nmiPending := by
  unfold State.returnFromException; split <;> rfl
@[simp] theorem State.returnFromException_nmiLine : (s.returnFromException).nmiLine = s.nmiLine := by
  unfold State.returnFromException; split <;> rfl
@[simp] theorem State.returnFromException_watchPending : (s.returnFromException).watchPending = s.watchPending := by
  unfold State.returnFromException; split <;> rfl
@[simp] theorem State.returnFromException_mem : (s.returnFromException).mem = s.mem := by
  unfold State.returnFromException; split <;> rfl
@[simp] theorem State.returnFromException_posted : (s.returnFromException).posted = s.posted := by
  unfold State.returnFromException; split <;> rfl
@[simp] theorem State.returnFromException_writeFifo : (s.returnFromException).writeFifo = s.writeFifo := by
  unfold State.returnFromException; split <;> rfl
@[simp] theorem State.returnFromException_syscon : (s.returnFromException).syscon = s.syscon := by
  unfold State.returnFromException; split <;> rfl
@[simp] theorem State.returnFromException_uart : (s.returnFromException).uart = s.uart := by
  unfold State.returnFromException; split <;> rfl
@[simp] theorem State.returnFromException_timers : (s.returnFromException).timers = s.timers := by
  unfold State.returnFromException; split <;> rfl
@[simp] theorem State.returnFromException_microWire : (s.returnFromException).microWire = s.microWire := by
  unfold State.returnFromException; split <;> rfl
@[simp] theorem State.returnFromException_usb : (s.returnFromException).usb = s.usb := by
  unfold State.returnFromException; split <;> rfl
@[simp] theorem State.returnFromException_eth1 : (s.returnFromException).eth1 = s.eth1 := by
  unfold State.returnFromException; split <;> rfl
@[simp] theorem State.returnFromException_eth2 : (s.returnFromException).eth2 = s.eth2 := by
  unfold State.returnFromException; split <;> rfl
@[simp] theorem State.returnFromException_atm : (s.returnFromException).atm = s.atm := by
  unfold State.returnFromException; split <;> rfl
@[simp] theorem State.returnFromException_pci : (s.returnFromException).pci = s.pci := by
  unfold State.returnFromException; split <;> rfl
@[simp] theorem State.returnFromException_board : (s.returnFromException).board = s.board := by
  unfold State.returnFromException; split <;> rfl
@[simp] theorem State.returnFromException_countPre : (s.returnFromException).countPre = s.countPre := by
  unfold State.returnFromException; split <;> rfl
@[simp] theorem State.returnFromException_ibusPre : (s.returnFromException).ibusPre = s.ibusPre := by
  unfold State.returnFromException; split <;> rfl
@[simp] theorem State.returnFromException_free : (s.returnFromException).free = s.free := by
  unfold State.returnFromException; split <;> rfl
@[simp] theorem State.returnFromException_steps : (s.returnFromException).steps = s.steps := by
  unfold State.returnFromException; split <;> rfl
@[simp] theorem State.returnFromException_inputs : (s.returnFromException).inputs = s.inputs := by
  unfold State.returnFromException; split <;> rfl
@[simp] theorem State.returnFromException_getReg (q : Reg) : (s.returnFromException).getReg q = s.getReg q :=
  State.getReg_congr (by simp) q

/-! ### captureSources -/

@[simp] theorem State.captureSources_gpr : (s.captureSources).gpr = s.gpr := rfl
@[simp] theorem State.captureSources_hi : (s.captureSources).hi = s.hi := rfl
@[simp] theorem State.captureSources_lo : (s.captureSources).lo = s.lo := rfl
@[simp] theorem State.captureSources_pc : (s.captureSources).pc = s.pc := rfl
@[simp] theorem State.captureSources_slot : (s.captureSources).slot = s.slot := rfl
@[simp] theorem State.captureSources_cp0 : (s.captureSources).cp0 = s.cp0 := rfl
@[simp] theorem State.captureSources_tlb : (s.captureSources).tlb = s.tlb := rfl
@[simp] theorem State.captureSources_tlbShutdown : (s.captureSources).tlbShutdown = s.tlbShutdown := rfl
@[simp] theorem State.captureSources_icache : (s.captureSources).icache = s.icache := rfl
@[simp] theorem State.captureSources_dcache : (s.captureSources).dcache = s.dcache := rfl
@[simp] theorem State.captureSources_power : (s.captureSources).power = s.power := rfl
@[simp] theorem State.captureSources_nmiPending : (s.captureSources).nmiPending = s.nmiPending := rfl
@[simp] theorem State.captureSources_nmiLine : (s.captureSources).nmiLine = s.nmiLine := rfl
@[simp] theorem State.captureSources_watchPending : (s.captureSources).watchPending = s.watchPending := rfl
@[simp] theorem State.captureSources_mem : (s.captureSources).mem = s.mem := rfl
@[simp] theorem State.captureSources_posted : (s.captureSources).posted = s.posted := rfl
@[simp] theorem State.captureSources_writeFifo : (s.captureSources).writeFifo = s.writeFifo := rfl
@[simp] theorem State.captureSources_uart : (s.captureSources).uart = s.uart := rfl
@[simp] theorem State.captureSources_timers : (s.captureSources).timers = s.timers := rfl
@[simp] theorem State.captureSources_microWire : (s.captureSources).microWire = s.microWire := rfl
@[simp] theorem State.captureSources_usb : (s.captureSources).usb = s.usb := rfl
@[simp] theorem State.captureSources_eth1 : (s.captureSources).eth1 = s.eth1 := rfl
@[simp] theorem State.captureSources_eth2 : (s.captureSources).eth2 = s.eth2 := rfl
@[simp] theorem State.captureSources_atm : (s.captureSources).atm = s.atm := rfl
@[simp] theorem State.captureSources_pci : (s.captureSources).pci = s.pci := rfl
@[simp] theorem State.captureSources_board : (s.captureSources).board = s.board := rfl
@[simp] theorem State.captureSources_countPre : (s.captureSources).countPre = s.countPre := rfl
@[simp] theorem State.captureSources_ibusPre : (s.captureSources).ibusPre = s.ibusPre := rfl
@[simp] theorem State.captureSources_free : (s.captureSources).free = s.free := rfl
@[simp] theorem State.captureSources_steps : (s.captureSources).steps = s.steps := rfl
@[simp] theorem State.captureSources_inputs : (s.captureSources).inputs = s.inputs := rfl
@[simp] theorem State.captureSources_getReg (q : Reg) : (s.captureSources).getReg q = s.getReg q :=
  State.getReg_congr (by simp) q

/-! ### captureNmi -/

@[simp] theorem State.captureNmi_gpr : (s.captureNmi).gpr = s.gpr := by
  unfold State.captureNmi; split <;> rfl
@[simp] theorem State.captureNmi_hi : (s.captureNmi).hi = s.hi := by
  unfold State.captureNmi; split <;> rfl
@[simp] theorem State.captureNmi_lo : (s.captureNmi).lo = s.lo := by
  unfold State.captureNmi; split <;> rfl
@[simp] theorem State.captureNmi_pc : (s.captureNmi).pc = s.pc := by
  unfold State.captureNmi; split <;> rfl
@[simp] theorem State.captureNmi_slot : (s.captureNmi).slot = s.slot := by
  unfold State.captureNmi; split <;> rfl
@[simp] theorem State.captureNmi_cp0 : (s.captureNmi).cp0 = s.cp0 := by
  unfold State.captureNmi; split <;> rfl
@[simp] theorem State.captureNmi_tlb : (s.captureNmi).tlb = s.tlb := by
  unfold State.captureNmi; split <;> rfl
@[simp] theorem State.captureNmi_tlbShutdown : (s.captureNmi).tlbShutdown = s.tlbShutdown := by
  unfold State.captureNmi; split <;> rfl
@[simp] theorem State.captureNmi_icache : (s.captureNmi).icache = s.icache := by
  unfold State.captureNmi; split <;> rfl
@[simp] theorem State.captureNmi_dcache : (s.captureNmi).dcache = s.dcache := by
  unfold State.captureNmi; split <;> rfl
@[simp] theorem State.captureNmi_power : (s.captureNmi).power = s.power := by
  unfold State.captureNmi; split <;> rfl
@[simp] theorem State.captureNmi_watchPending : (s.captureNmi).watchPending = s.watchPending := by
  unfold State.captureNmi; split <;> rfl
@[simp] theorem State.captureNmi_mem : (s.captureNmi).mem = s.mem := by
  unfold State.captureNmi; split <;> rfl
@[simp] theorem State.captureNmi_posted : (s.captureNmi).posted = s.posted := by
  unfold State.captureNmi; split <;> rfl
@[simp] theorem State.captureNmi_writeFifo : (s.captureNmi).writeFifo = s.writeFifo := by
  unfold State.captureNmi; split <;> rfl
@[simp] theorem State.captureNmi_syscon : (s.captureNmi).syscon = s.syscon := by
  unfold State.captureNmi; split <;> rfl
@[simp] theorem State.captureNmi_uart : (s.captureNmi).uart = s.uart := by
  unfold State.captureNmi; split <;> rfl
@[simp] theorem State.captureNmi_timers : (s.captureNmi).timers = s.timers := by
  unfold State.captureNmi; split <;> rfl
@[simp] theorem State.captureNmi_microWire : (s.captureNmi).microWire = s.microWire := by
  unfold State.captureNmi; split <;> rfl
@[simp] theorem State.captureNmi_usb : (s.captureNmi).usb = s.usb := by
  unfold State.captureNmi; split <;> rfl
@[simp] theorem State.captureNmi_eth1 : (s.captureNmi).eth1 = s.eth1 := by
  unfold State.captureNmi; split <;> rfl
@[simp] theorem State.captureNmi_eth2 : (s.captureNmi).eth2 = s.eth2 := by
  unfold State.captureNmi; split <;> rfl
@[simp] theorem State.captureNmi_atm : (s.captureNmi).atm = s.atm := by
  unfold State.captureNmi; split <;> rfl
@[simp] theorem State.captureNmi_pci : (s.captureNmi).pci = s.pci := by
  unfold State.captureNmi; split <;> rfl
@[simp] theorem State.captureNmi_board : (s.captureNmi).board = s.board := by
  unfold State.captureNmi; split <;> rfl
@[simp] theorem State.captureNmi_countPre : (s.captureNmi).countPre = s.countPre := by
  unfold State.captureNmi; split <;> rfl
@[simp] theorem State.captureNmi_ibusPre : (s.captureNmi).ibusPre = s.ibusPre := by
  unfold State.captureNmi; split <;> rfl
@[simp] theorem State.captureNmi_free : (s.captureNmi).free = s.free := by
  unfold State.captureNmi; split <;> rfl
@[simp] theorem State.captureNmi_steps : (s.captureNmi).steps = s.steps := by
  unfold State.captureNmi; split <;> rfl
@[simp] theorem State.captureNmi_inputs : (s.captureNmi).inputs = s.inputs := by
  unfold State.captureNmi; split <;> rfl
@[simp] theorem State.captureNmi_getReg (q : Reg) : (s.captureNmi).getReg q = s.getReg q :=
  State.getReg_congr (by simp) q

/-! ### What the operations change -/

@[simp] theorem State.draw_value : s.draw.1 = Config.freeValue s.free := rfl
@[simp] theorem State.draw_free : s.draw.2.free = s.free + 1 := rfl
@[simp] theorem State.stepRandom_cp0 : s.stepRandom.cp0 = { s.cp0 with random := s.cp0.nextRandom } := rfl
@[simp] theorem State.advance_pc : s.advance.pc = s.nextPc := rfl
@[simp] theorem State.advance_slot : s.advance.slot = .normal := rfl
@[simp] theorem State.retire_pc : s.retire.pc = s.nextPc := rfl
@[simp] theorem State.retire_slot : s.retire.slot = .normal := rfl
@[simp] theorem State.retire_cp0 : s.retire.cp0 = { s.cp0 with random := s.cp0.nextRandom } := rfl
@[simp] theorem State.nmiCause_syscon (b : Word) : (s.nmiCause b).syscon = { s.syscon with nsr := s.syscon.nsr ||| b } := rfl
@[simp] theorem State.takeException_pc (e : Exc) : (s.takeException e).pc = s.vectorBase + s.vectorOffset e := rfl
@[simp] theorem State.takeException_slot (e : Exc) : (s.takeException e).slot = .normal := rfl
@[simp] theorem State.takeNmi_pc : s.takeNmi.pc = 0xFFFF_FFFF_BFC0_0000 := rfl
@[simp] theorem State.takeNmi_slot : s.takeNmi.slot = .normal := rfl
@[simp] theorem State.takeNmi_nmiPending : s.takeNmi.nmiPending = false := rfl

/-! ### Results -/

variable {α β : Type}

@[simp] theorem Res.bind_ok (a : α) (f : α → State → Res β) : (Res.ok a s).bind f = f a s := rfl
@[simp] theorem Res.bind_raise (e : Exc) (f : α → State → Res β) : (Res.raise e s : Res α).bind f = .raise e s := rfl
@[simp] theorem Res.bind_fault (g : Fault) (f : α → State → Res β) : (Res.fault g : Res α).bind f = .fault g := rfl
@[simp] theorem Res.finish_ok (u : Unit) : (Res.ok u s).finish = .next s.retire := rfl
@[simp] theorem Res.finish_raise (e : Exc) : (Res.raise e s : Res Unit).finish = .next (s.takeException e) := rfl
@[simp] theorem Res.finish_fault (g : Fault) : (Res.fault g : Res Unit).finish = .fault g := rfl

end Sys2Proof.Machine
end

