-- ==== Sys2Proof/Laws/Evolves.lean ====
section
/-! SUPPORT. What an access of memory, of a device or of a cache can do to the state, said once: it leaves the registers
of the core alone and keeps the sparse maps canonical. -/
namespace Sys2Proof.Machine

/-! ### Predicates over results -/

/-- Every state that the result holds satisfies `p`. -/
inductive Res.Holds {α : Type} (p : State → Prop) : Res α → Prop
  | ok {a : α} {s : State} (h : p s) : Res.Holds p (.ok a s)
  | raise {e : Exc} {s : State} (h : p s) : Res.Holds p (.raise e s)
  | fault {f : Fault} : Res.Holds p (.fault f)

theorem Res.Holds.mono {α : Type} {p q : State → Prop} {r : Res α} (h : r.Holds p) (hpq : ∀ s, p s → q s) :
    r.Holds q := by
  cases h with
  | ok h => exact .ok (hpq _ h)
  | raise h => exact .raise (hpq _ h)
  | fault => exact .fault

theorem Res.Holds.bind {α β : Type} {p : State → Prop} {r : Res α} {f : α → State → Res β} (h : r.Holds p)
    (hf : ∀ a s, p s → (f a s).Holds p) : (r.bind f).Holds p := by
  cases h with
  | ok h => exact hf _ _ h
  | raise h => exact .raise h
  | fault => exact .fault

theorem Res.Holds.of_ok {α : Type} {p : State → Prop} {a : α} {s : State} (h : (Res.ok a s).Holds p) : p s := by
  cases h; assumption

theorem Res.Holds.of_raise {α : Type} {p : State → Prop} {x : Exc} {s : State} (h : (Res.raise x s : Res α).Holds p) :
    p s := by
  cases h; assumption

/-! ### The canonical form -/

theorem State.canonical_iff (s : State) : s.canonical = true ↔
    s.mem.wf = true ∧ (cellWf {} 0 s.dcache = true ∧ cellsBelow 512 s.dcache = true ∧
      cellWf {} 0 s.icache = true ∧ cellsBelow 1024 s.icache = true) ∧
      cellWf 0 0 s.atm.workRam = true ∧ cellWf 0 0 s.atm.lookup = true := by
  simp only [State.canonical, State.memoryCanonical, State.cachesCanonical, State.atmCanonical, Bool.and_eq_true]
  tauto

theorem cellsBelow_cellDrop {α : Type} {n a : Nat} {l : List (Nat × α)} (h : cellsBelow n l = true) :
    cellsBelow n (cellDrop a l) = true := by
  cases l with
  | nil => rfl
  | cons c l =>
    obtain ⟨k, v⟩ := c
    by_cases hk : a = k
    · simp only [cellsBelow, List.all_cons, Bool.and_eq_true] at h
      simpa [cellDrop, hk, cellsBelow] using h.2
    · simpa [cellDrop, hk] using h

theorem cellsBelow_cellSet {α : Type} [DecidableEq α] {d : α} {n a : Nat} {v : α} {l : List (Nat × α)}
    (h : cellsBelow n l = true) (ha : a < n) : cellsBelow n (cellSet d l a v) = true := by
  induction l with
  | nil => by_cases hv : v = d <;> simp [cellSet, cellsBelow, hv, ha]
  | cons c l ih =>
    obtain ⟨k, w⟩ := c
    have h' : k < n ∧ cellsBelow n l = true := by simpa [cellsBelow] using h
    rw [cellSet]
    split
    · simpa [cellsBelow, h'.1] using ih h'.2
    · split
      · exact cellsBelow_cellDrop h
      · simpa [cellsBelow, ha] using cellsBelow_cellDrop h

/-! ### Evolution -/

/-- `t` has the core registers of `s` — all but Status.TS, the deferred Watch flag and the latched NMI, which a reference can
change — and its sparse maps are canonical if those of `s` are. -/
structure State.Evolves (s t : State) : Prop where
  gpr : t.gpr = s.gpr
  hi : t.hi = s.hi
  lo : t.lo = s.lo
  pc : t.pc = s.pc
  slot : t.slot = s.slot
  cp0 : t.cp0 = s.cp0
  tlb : t.tlb = s.tlb
  power : t.power = s.power
  board : t.board = s.board
  countPre : t.countPre = s.countPre
  ibusPre : t.ibusPre = s.ibusPre
  steps : t.steps = s.steps
  inputs : t.inputs = s.inputs
  canonical : s.canonical = true → t.canonical = true

theorem State.Evolves.refl (s : State) : s.Evolves s := by constructor <;> first | rfl | exact id

theorem State.Evolves.trans {s t u : State} (h : s.Evolves t) (k : t.Evolves u) : s.Evolves u := by
  cases h; cases k
  constructor <;> simp_all

/-- Go on from a state that has evolved. -/
theorem Res.Holds.then {α β : Type} {s : State} {r : Res α} {f : α → State → Res β} (h : r.Holds s.Evolves)
    (hf : ∀ a t, (f a t).Holds t.Evolves) : (r.bind f).Holds s.Evolves :=
  h.bind fun a t ht => (hf a t).mono fun _ => ht.trans

theorem Res.Holds.after {α : Type} {s t : State} {r : Res α} (h : s.Evolves t) (k : r.Holds t.Evolves) :
    r.Holds s.Evolves := k.mono fun _ => h.trans

variable (s : State)

/-- `t` is `s` after what a posted write, an edge detector or a device register does: the core, the caches and memory stay, and
so do the sparse maps of the ATM block. -/
structure State.Lands (s t : State) : Prop where
  only : t = { s with
    posted := t.posted, writeFifo := t.writeFifo, syscon := t.syscon, uart := t.uart, timers := t.timers
    microWire := t.microWire, usb := t.usb, eth1 := t.eth1, eth2 := t.eth2, atm := t.atm, pci := t.pci
    free := t.free, nmiPending := t.nmiPending, nmiLine := t.nmiLine }
  workRam : t.atm.workRam = s.atm.workRam
  lookup : t.atm.lookup = s.atm.lookup

theorem State.Lands.refl (s : State) : s.Lands s := ⟨rfl, rfl, rfl⟩

theorem State.Lands.trans {s t u : State} (h : s.Lands t) (k : t.Lands u) : s.Lands u where
  only := k.only.trans (by rw [h.only])
  workRam := k.workRam.trans h.workRam
  lookup := k.lookup.trans h.lookup

theorem State.Lands.mem {s t : State} (h : s.Lands t) : t.mem = s.mem := by rw [h.only]

theorem State.Lands.dcache {s t : State} (h : s.Lands t) : t.dcache = s.dcache := by rw [h.only]

theorem State.Lands.icache {s t : State} (h : s.Lands t) : t.icache = s.icache := by rw [h.only]

/-- Landing is an evolution. -/
theorem State.Lands.evolves {s t : State} (h : s.Lands t) : s.Evolves t := by
  constructor
  case canonical =>
    intro c
    rw [State.canonical_iff] at *
    rw [h.mem, h.dcache, h.icache, h.workRam, h.lookup]
    exact c
  all_goals rw [h.only]

/-- An update of a device, of the posted writes or of a free value lands. -/
theorem State.Lands.of_only {s t : State} (only : t = { s with
    posted := t.posted, writeFifo := t.writeFifo, syscon := t.syscon, uart := t.uart, timers := t.timers
    microWire := t.microWire, usb := t.usb, eth1 := t.eth1, eth2 := t.eth2, pci := t.pci
    free := t.free, nmiPending := t.nmiPending, nmiLine := t.nmiLine }) : s.Lands t :=
  ⟨by rw [only], by rw [only], by rw [only]⟩

theorem State.lands_draw : s.Lands s.draw.2 := .of_only rfl
theorem State.lands_nmiCause (b : Word) : s.Lands (s.nmiCause b) := .of_only rfl
theorem State.lands_syscon (d : Syscon) : s.Lands { s with syscon := d } := .of_only rfl
theorem State.lands_uart (d : Uart) : s.Lands { s with uart := d } := .of_only rfl
theorem State.lands_timers (d : Timers) : s.Lands { s with timers := d } := .of_only rfl
theorem State.lands_microWire (d : MicroWire) : s.Lands { s with microWire := d } := .of_only rfl
theorem State.lands_usb (d : Usb) : s.Lands { s with usb := d } := .of_only rfl
theorem State.lands_eth1 (d : Eth) : s.Lands { s with eth1 := d } := .of_only rfl
theorem State.lands_eth2 (d : Eth) : s.Lands { s with eth2 := d } := .of_only rfl
theorem State.lands_pci (d : Pci) : s.Lands { s with pci := d } := .of_only rfl
theorem State.lands_posted (l : List PostedWrite) : s.Lands { s with posted := l } := .of_only rfl
theorem State.lands_writeFifo (l : List Host.Cell) : s.Lands { s with writeFifo := l } := .of_only rfl

theorem State.lands_atm {d : Atm} (hw : d.workRam = s.atm.workRam) (hl : d.lookup = s.atm.lookup) :
    s.Lands { s with atm := d } := ⟨rfl, hw, hl⟩

theorem State.lands_capture : s.Lands s.capture := by
  unfold State.capture State.captureNmi
  split <;> exact .of_only rfl

theorem State.evolves_draw : s.Evolves s.draw.2 := s.lands_draw.evolves

theorem State.evolves_nmiCause (b : Word) : s.Evolves (s.nmiCause b) := (s.lands_nmiCause b).evolves

theorem State.evolves_tlbShutdown (b : Bool) : s.Evolves { s with tlbShutdown := b } := by
  constructor <;> first | rfl | exact id

theorem State.evolves_watchPending (b : Bool) : s.Evolves { s with watchPending := b } := by
  constructor <;> first | rfl | exact id

theorem State.evolves_mem {m : Memory} (h : s.mem.wf = true → m.wf = true) : s.Evolves { s with mem := m } := by
  constructor <;> first | rfl | skip
  intro c
  rw [State.canonical_iff] at *
  exact ⟨h c.1, c.2⟩

theorem State.evolves_setDLine {i : Nat} (hi : i < 512) (l : DLine) : s.Evolves (s.setDLine i l) := by
  constructor <;> first | rfl | skip
  intro c
  rw [State.canonical_iff] at *
  exact ⟨c.1, ⟨cellWf_cellSet c.2.1.1 (Nat.zero_le _), cellsBelow_cellSet c.2.1.2.1 hi, c.2.1.2.2⟩, c.2.2⟩

theorem State.evolves_setILine {i : Nat} (hi : i < 1024) (l : ILine) : s.Evolves (s.setILine i l) := by
  constructor <;> first | rfl | skip
  intro c
  rw [State.canonical_iff] at *
  exact ⟨c.1, ⟨c.2.1.1, c.2.1.2.1, cellWf_cellSet c.2.1.2.2.1 (Nat.zero_le _), cellsBelow_cellSet c.2.1.2.2.2 hi⟩, c.2.2⟩

/-! ### Device registers -/

theorem DevReply.sized_dev {σ : Type} (ok : Bool) (r : DevReply σ) : (r.sized ok).dev = r.dev := by
  unfold DevReply.sized
  split
  · split <;> rfl
  · rfl

theorem Atm.readReg_maps (a : Atm) (o : Nat) :
    (a.readReg o).dev.workRam = a.workRam ∧ (a.readReg o).dev.lookup = a.lookup := by
  unfold Atm.readReg
  repeat' split
  all_goals exact ⟨rfl, rfl⟩

/-- A load of an ATM register leaves the work RAM and the lookup table alone. -/
theorem Atm.read_maps (a : Atm) (off : Nat) (be : Lanes) :
    (a.read off be).dev.workRam = a.workRam ∧ (a.read off be).dev.lookup = a.lookup := by
  unfold Atm.read
  split
  · exact ⟨rfl, rfl⟩
  · split
    · rw [DevReply.sized_dev]; exact ⟨rfl, rfl⟩
    · rw [DevReply.sized_dev]; exact a.readReg_maps _

theorem Atm.writeCmr_maps (a : Atm) (v : Word) :
    (a.writeCmr v).workRam = a.workRam ∧ (a.writeCmr v).lookup = a.lookup := by
  unfold Atm.writeCmr; split <;> exact ⟨rfl, rfl⟩

theorem Atm.writeInbar_maps (a : Atm) (v : Word) :
    (a.writeInbar v).workRam = a.workRam ∧ (a.writeInbar v).lookup = a.lookup := ⟨rfl, rfl⟩

theorem Atm.writeReg_maps (a : Atm) (o : Nat) (v : Word) :
    (a.writeReg o v).dev.workRam = a.workRam ∧ (a.writeReg o v).dev.lookup = a.lookup := by
  unfold Atm.writeReg
  repeat' split
  all_goals dsimp only
  all_goals try simp only [Atm.writeCmr_maps, Atm.writeInbar_maps, and_self]
  repeat' split
  all_goals exact ⟨rfl, rfl⟩

/-- A store to an ATM register leaves the work RAM and the lookup table alone. -/
theorem Atm.write_maps (a : Atm) (off : Nat) (be : Lanes) (v : Word) :
    (a.write off be v).dev.workRam = a.workRam ∧ (a.write off be v).dev.lookup = a.lookup := by
  unfold Atm.write
  split
  · exact ⟨rfl, rfl⟩
  · split
    · rw [DevReply.sized_dev]; exact ⟨rfl, rfl⟩
    · rw [DevReply.sized_dev]; exact a.writeReg_maps _ v

theorem State.lands_answer (data : Option Word) (limit : Nat) : s.Lands (s.answer data limit).2 := by
  unfold State.answer
  split
  · exact .refl s
  · exact s.lands_draw

theorem resolveData_evolves (data : Option Word) (limit : Nat) : (resolveData data limit s).Holds s.Evolves := by
  exact .ok (s.lands_answer data limit).evolves

theorem deviceRead_evolves {σ : Type} (e : Exc) (put : State → σ → State) (r : DevReply σ)
    (h : s.Lands (put s r.dev)) : (deviceRead e put r s).Holds s.Evolves := by
  unfold deviceRead
  split
  · exact .after h.evolves (resolveData_evolves _ _ _)
  · exact .raise (s.evolves_nmiCause _)
  · exact .after (h.evolves.trans (State.evolves_nmiCause _ _)) (resolveData_evolves _ _ _)

theorem deviceWrite_lands {σ : Type} (put : State → σ → State) (r : DevReply σ) (h : s.Lands (put s r.dev)) :
    s.Lands (deviceWrite put r s) := by
  unfold deviceWrite
  split
  · exact h
  · exact s.lands_nmiCause _
  · exact s.lands_nmiCause _

theorem State.readSyscon_evolves (e : Exc) (off : Nat) (be : Lanes) : (s.readSyscon e off be).Holds s.Evolves := by
  unfold State.readSyscon
  dsimp only
  split
  · apply deviceRead_evolves; exact s.lands_uart _
  · split
    · apply deviceRead_evolves; exact .refl s
    · split
      · apply deviceRead_evolves; exact s.lands_microWire _
      · apply deviceRead_evolves; exact s.lands_syscon _

theorem State.lands_warmReset (b : Block) : s.Lands (s.warmReset b) := by
  unfold State.warmReset
  cases b
  case atm => exact (s.lands_syscon _).trans (State.lands_atm _ rfl rfl)
  all_goals exact .of_only rfl

theorem State.lands_writeWrcr (be : Lanes) (v : Word) : s.Lands (s.writeWrcr be v) := by
  have go (c : Bool) (t : State) (b : Block) : t.Lands (if c then t.warmReset b else t) := by
    split
    · exact t.lands_warmReset b
    · exact .refl t
  exact (((((go _ _ _).trans (go _ _ _)).trans (go _ _ _)).trans (go _ _ _)).trans (go _ _ _)).trans (go _ _ _)

theorem State.lands_writeSyscon (off : Nat) (be : Lanes) (v : Word) : s.Lands (s.writeSyscon off be v) := by
  unfold State.writeSyscon
  split
  · exact s.lands_nmiCause _
  · split
    · apply deviceWrite_lands; exact s.lands_uart _
    · split
      · exact s.lands_timers _
      · split
        · exact s.lands_microWire _
        · split
          · exact s.lands_writeWrcr be v
          · apply deviceWrite_lands; exact s.lands_syscon _

theorem State.readBlock_evolves (e : Exc) (b : Block) (off : Nat) (be : Lanes) :
    (s.readBlock e b off be).Holds s.Evolves := by
  unfold State.readBlock
  split
  · exact resolveData_evolves _ _ _
  · cases b
    · apply deviceRead_evolves; exact s.lands_usb _
    · apply deviceRead_evolves; exact s.lands_eth1 _
    · apply deviceRead_evolves; exact s.lands_atm (Atm.read_maps _ _ _).1 (Atm.read_maps _ _ _).2
    · apply deviceRead_evolves; exact s.lands_eth2 _
    · exact resolveData_evolves _ _ _
    · apply deviceRead_evolves; exact s.lands_pci _

theorem State.lands_writeBlock (b : Block) (off : Nat) (be : Lanes) (v : Word) : s.Lands (s.writeBlock b off be v) := by
  unfold State.writeBlock
  split
  · exact .refl s
  · cases b
    · apply deviceWrite_lands; exact s.lands_usb _
    · apply deviceWrite_lands; exact s.lands_eth1 _
    · apply deviceWrite_lands; exact s.lands_atm (Atm.write_maps _ _ _ _).1 (Atm.write_maps _ _ _ _).2
    · apply deviceWrite_lands; exact s.lands_eth2 _
    · exact .refl s
    · apply deviceWrite_lands; exact s.lands_pci _

theorem State.lands_windowWord : s.Lands s.windowWord.2 := by
  unfold State.windowWord
  split
  · exact s.lands_answer _ _
  · exact (s.lands_pci _).trans (State.lands_answer _ _ _)

/-! ### Posted writes -/

theorem lands_registerLost (reserved : Nat → Bool) (count a : Nat) : s.Lands (registerLost reserved count a s) :=
  s.lands_nmiCause _

theorem lands_registerWrite (a n : Nat) (reserved : Nat → Bool) {word : State} (h : s.Lands word) :
    s.Lands (registerWrite a n s reserved word) := by
  unfold registerWrite
  split
  · exact h
  · exact lands_registerLost s _ _ _

theorem State.lands_writeWindow (a n v : Nat) : s.Lands (s.writeWindow a n v) := by
  unfold State.writeWindow
  split
  · exact .refl s
  · exact s.lands_pci _

theorem State.lands_issueWindowRead (a n : Nat) : s.Lands (s.issueWindowRead a n) := by
  unfold State.issueWindowRead
  split
  · exact .refl s
  · exact s.lands_pci _

theorem State.lands_writeRom (n : Nat) : s.Lands (s.writeRom n) := by
  unfold State.writeRom
  split
  · split
    · exact .refl s
    · exact s.lands_nmiCause _
  · split
    · exact s.lands_draw.trans (State.lands_nmiCause _ _)
    · exact s.lands_draw

theorem State.lands_landSingle (pa : PAddr) (n : Nat) (v : Dword) : s.Lands (s.landSingle pa n v) := by
  unfold State.landSingle
  dsimp only
  split
  · exact .refl s
  · exact s.lands_writeRom n
  · exact s.lands_nmiCause _
  · exact s.lands_nmiCause _
  · exact lands_registerWrite s _ n _ (s.lands_writeSyscon _ _ _)
  · exact lands_registerWrite s _ n _ (s.lands_writeBlock _ _ _ _)
  · exact s.lands_nmiCause _
  · exact s.lands_writeWindow _ _ _

theorem State.lands_landBurst (pa : PAddr) (v : BitVec 128) : s.Lands (s.landBurst pa v) := by
  unfold State.landBurst
  dsimp only
  split <;> first | exact .refl s | exact s.lands_nmiCause _ | exact s.lands_writeWindow _ _ _

theorem State.lands_land (w : PostedWrite) : s.Lands (s.land w) := by
  cases w with
  | memory r => exact s.lands_writeFifo _
  | single pa n v => exact (s.lands_writeFifo _).trans (State.lands_landSingle _ pa n v)
  | burst pa v => exact (s.lands_writeFifo _).trans (State.lands_landBurst _ pa v)

theorem State.lands_landFirst (ws : List PostedWrite) (n : Nat) : s.Lands (State.landFirst ws n s) := by
  induction ws generalizing n s with
  | nil => exact .refl s
  | cons w ws ih =>
    rw [State.landFirst]
    split
    · exact .refl s
    · exact (((s.lands_posted ws).trans (State.lands_land _ w)).trans (State.lands_capture _)).trans (ih _ _)

/-- All that the landing of posted writes can do. -/
theorem State.lands_landWrites (n : Nat) : s.Lands (s.landWrites n) := s.lands_landFirst _ n

/-- All that waiting for posted writes can do. -/
theorem State.lands_await (side : BusSide) : s.Lands (s.await side) :=
  (s.lands_landWrites _).trans (State.lands_writeFifo _ _)

/-- All that waiting for room in the command buffer can do. -/
theorem State.lands_room : s.Lands s.room := by
  unfold State.room
  split
  · exact .refl s
  · exact s.lands_landWrites 1

theorem State.lands_post (w : PostedWrite) : s.Lands (s.post w) := s.lands_room.trans (State.lands_posted _ _)

/-! ### The bus -/

theorem State.openRead_evolves : s.openRead.Holds s.Evolves := .ok (s.evolves_draw)

theorem takeBytes_evolves (a n : Nat) {r : Res Word} (h : r.Holds s.Evolves) : (takeBytes a n r).Holds s.Evolves :=
  h.then fun _ t => .ok (.refl t)

theorem readRegisters_evolves {word : Lanes → Nat → State → Res Word} (h : ∀ be a t, (word be a t).Holds t.Evolves)
    (lanes : List Lanes) (a : Nat) : (readRegisters word lanes a s).Holds s.Evolves := by
  induction lanes generalizing a s with
  | nil => exact .ok (.refl s)
  | cons be rest ih => exact (h be a s).then fun _ t => ih t _

theorem Res.Holds.behind {α : Type} {f : State → State} {r : Res α} (h : r.Holds s.Evolves) (hf : ∀ t : State, t.Evolves (f t)) :
    (r.behind f).Holds s.Evolves := by
  cases h with
  | ok h => exact .ok (h.trans (hf _))
  | raise h => exact .raise (h.trans (hf _))
  | fault => exact .fault

/-- All that a burst read of registers can do. -/
theorem registerBurst_evolves {word : Lanes → Nat → State → Res Word} (h : ∀ be a t, (word be a t).Holds t.Evolves)
    (lanes : List Lanes) (a : Nat) : (registerBurst word lanes a s).Holds s.Evolves :=
  .behind s (readRegisters_evolves s h lanes _) fun t => t.evolves_nmiCause _

theorem registerRead_evolves (a n : Nat) {word : Lanes → Nat → State → Res Word}
    (h : ∀ be a t, (word be a t).Holds t.Evolves) : (registerRead a n s word).Holds s.Evolves := by
  unfold registerRead
  split
  · exact takeBytes_evolves s a n (h _ _ s)
  · exact (registerBurst_evolves s h _ _).then fun _ t => t.openRead_evolves

theorem State.lands_windowWords (count : Nat) : s.Lands (State.windowWords count s).2 := by
  induction count generalizing s with
  | zero => exact .refl s
  | succ n ih => exact s.lands_windowWord.trans (ih _)

theorem State.lands_readOnPci (a n : Nat) : s.Lands (s.readOnPci a n).2 :=
  (s.lands_issueWindowRead a n).trans (State.lands_windowWords _ _)

/-- All that a read of the window can do. -/
theorem State.lands_readWindow (a n : Nat) : s.Lands (s.readWindow a n).2 := by
  change s.Lands (s.readPci a n).2
  unfold State.readPci
  split
  · exact s.lands_readOnPci a n
  · dsimp only
    split
    · exact s.lands_pci _
    · exact (s.lands_pci _).trans (State.lands_readOnPci _ _ _)

/-- All that taking on a delayed read can do. -/
theorem State.lands_latchRead (a n : Nat) : s.Lands (s.latchRead a n) := by
  unfold State.latchRead
  split
  · exact .refl s
  · exact (s.lands_readOnPci a _).trans (State.lands_pci _ _)

/-- All that waiting for the SysAD bus can do. -/
theorem State.lands_awaitSysAd : s.Lands s.awaitSysAd := s.lands_landWrites _

/-- All that an uncached read can do. -/
theorem State.busRead_evolves (e : Exc) (pa : PAddr) (n : Nat) : (s.busRead e pa n).Holds s.Evolves := by
  unfold State.busRead
  dsimp only
  refine .after (s.lands_await (busSide (foldAddress pa))).evolves ?_
  generalize s.await (busSide (foldAddress pa)) = s
  split
  · exact .ok (.refl s)
  · split
    · exact .ok (.refl s)
    · exact .after (s.evolves_nmiCause _) (State.openRead_evolves _)
  · exact .raise (s.evolves_nmiCause _)
  · exact .after (s.evolves_nmiCause _) (State.openRead_evolves _)
  · exact registerRead_evolves s _ n fun _ _ t => t.readSyscon_evolves e _ _
  · exact registerRead_evolves s _ n fun _ _ t => t.readBlock_evolves e _ _ _
  · exact .after (s.evolves_nmiCause _) (State.openRead_evolves _)
  · exact .ok (s.lands_readWindow _ n).evolves

theorem State.evolves_postMemory (a n v : Nat) : s.Evolves (s.postMemory a n v) :=
  (s.lands_post _).evolves.trans ((State.evolves_mem _ (m := s.mem.write a n v) fun h => by
    rw [(s.lands_post _).mem] at h
    exact Memory.wf_write h _ _ _))

/-- All that an uncached write can do. -/
theorem State.evolves_busWrite (pa : PAddr) (n : Nat) (v : Dword) : s.Evolves (s.busWrite pa n v) := by
  unfold State.busWrite
  dsimp only
  split
  · exact s.evolves_postMemory _ _ _
  · exact (s.lands_post _).evolves

theorem State.openLine_evolves : s.openLine.Holds s.Evolves := .ok (s.evolves_draw.trans (State.evolves_draw _))

/-- All that a refill burst can do. -/
theorem State.busReadLine_evolves (e : Exc) (pa : PAddr) : (s.busReadLine e pa).Holds s.Evolves := by
  unfold State.busReadLine
  dsimp only
  refine .after (s.lands_await (busSide (foldAddress pa))).evolves ?_
  generalize s.await (busSide (foldAddress pa)) = s
  split
  · exact .ok (.refl s)
  · exact .ok (.refl s)
  · exact .raise (s.evolves_nmiCause _)
  · exact .after (s.evolves_nmiCause _) (State.openLine_evolves _)
  · exact (registerBurst_evolves s (fun _ _ t => t.readSyscon_evolves e _ _) _ _).then fun _ t => t.openLine_evolves
  · exact (registerBurst_evolves s (fun _ _ t => t.readBlock_evolves e _ _ _) _ _).then fun _ t => t.openLine_evolves
  · exact .after (s.evolves_nmiCause _) (State.openLine_evolves _)
  · exact .ok (s.lands_readWindow _ 16).evolves

/-- All that a write-back burst can do. -/
theorem State.evolves_busWriteLine (pa : PAddr) (v : BitVec 128) : s.Evolves (s.busWriteLine pa v) := by
  unfold State.busWriteLine
  dsimp only
  split
  · exact s.evolves_postMemory _ _ _
  · exact (s.lands_post _).evolves

end Sys2Proof.Machine
end

