-- ==== Sys2Proof/Laws/Access.lean ====
section
/-! SUPPORT. What the caches, the address translation and the access functions can do to the state, said once each. -/
namespace Sys2Proof.Machine

variable (s : State)

theorem dIndex_lt (va : Dword) : dIndex va < 512 := (va.extractLsb' 4 9).isLt

theorem iIndex_lt (va : Dword) : iIndex va < 1024 := (va.extractLsb' 4 10).isLt

/-! ### Caches -/

theorem State.evolves_writeBackDirty (i : Nat) : s.Evolves (s.writeBackDirty i) := by
  unfold State.writeBackDirty
  dsimp only
  split
  · exact s.evolves_busWriteLine _ _
  · exact .refl s

theorem State.refillD_evolves {i : Nat} (hi : i < 512) (pa : PAddr) : (s.refillD i pa).Holds s.Evolves := by
  have h := s.busReadLine_evolves .dbe (lineBase pa)
  unfold State.refillD
  generalize s.busReadLine .dbe (lineBase pa) = r at h
  cases h with
  | ok h => exact .ok (h.trans (State.evolves_setDLine _ hi _))
  | raise h => exact .raise (h.trans (State.evolves_setDLine _ hi _))
  | fault => exact .fault

theorem State.fillD_evolves (va : Dword) (pa : PAddr) : (s.fillD va pa).Holds s.Evolves := by
  unfold State.fillD
  split
  · exact .ok (.refl s)
  · exact .after (s.evolves_writeBackDirty _) (State.refillD_evolves _ (dIndex_lt va) pa)

theorem State.refillI_evolves (e : Exc) {i : Nat} (hi : i < 1024) (pa : PAddr) : (s.refillI e i pa).Holds s.Evolves := by
  have h := s.busReadLine_evolves e (lineBase pa)
  unfold State.refillI
  generalize s.busReadLine e (lineBase pa) = r at h
  cases h with
  | ok h => exact .ok (h.trans (State.evolves_setILine _ hi _))
  | raise h => exact .raise (h.trans (State.evolves_setILine _ hi _))
  | fault => exact .fault

/-- All that a cached load can do. -/
theorem State.cachedRead_evolves (va : Dword) (pa : PAddr) (o n : Nat) : (s.cachedRead va pa o n).Holds s.Evolves :=
  (s.fillD_evolves va pa).then fun _ t => .ok (.refl t)

/-- All that a cached store can do. -/
theorem State.cachedWrite_evolves (va : Dword) (pa : PAddr) (o n : Nat) (v : Dword) :
    (s.cachedWrite va pa o n v).Holds s.Evolves :=
  (s.fillD_evolves va pa).then fun _ t => .ok (t.evolves_setDLine (dIndex_lt va) _)

/-- All that a cached fetch can do. -/
theorem State.cachedFetch_evolves (va : Dword) (pa : PAddr) : (s.cachedFetch va pa).Holds s.Evolves := by
  unfold State.cachedFetch
  dsimp only
  split
  · exact .ok (.refl s)
  · exact (s.refillI_evolves _ (iIndex_lt va) pa).then fun _ t => .ok (.refl t)

/-- The operations of CACHE that change TagLo. -/
def loadsTag (op : BitVec 5) : Bool := op == 4 || op == 5

theorem State.indexInvalidateI_evolves (va : Dword) : (s.indexInvalidateI va).Holds s.Evolves :=
  .ok (s.evolves_setILine (iIndex_lt va) _)

theorem State.indexWriteBackInvalidateD_evolves (va : Dword) : (s.indexWriteBackInvalidateD va).Holds s.Evolves :=
  .ok ((s.evolves_writeBackDirty _).trans (State.evolves_setDLine _ (dIndex_lt va) _))

theorem State.createDirtyExclusive_evolves (va : Dword) (pa : PAddr) :
    (s.createDirtyExclusive va pa).Holds s.Evolves := by
  have h : s.Evolves (if (s.dLine (dIndex va)).hit pa then s else s.writeBackDirty (dIndex va)) := by
    split
    · exact .refl s
    · exact s.evolves_writeBackDirty _
  exact .ok (h.trans (State.evolves_setDLine _ (dIndex_lt va) _))

theorem State.hitWriteBackD_evolves (va : Dword) (pa : PAddr) : (s.hitWriteBackD va pa).Holds s.Evolves := by
  unfold State.hitWriteBackD
  split
  · exact .ok ((s.evolves_writeBackDirty _).trans (State.evolves_setDLine _ (dIndex_lt va) _))
  · exact .ok (.refl s)

theorem State.hitWriteBackI_evolves (va : Dword) (pa : PAddr) : (s.hitWriteBackI va pa).Holds s.Evolves := by
  have h : s.Evolves (if (s.iLine (iIndex va)).hit pa then
      s.busWriteLine (writeBackAddress (iIndex va) (s.iLine (iIndex va)).ptag) (s.iLine (iIndex va)).data else s) := by
    split
    · exact s.evolves_busWriteLine _ _
    · exact .refl s
  exact .ok h

/-- All that an operation of CACHE other than Index_Load_Tag can do. -/
theorem State.cacheOp_evolves {op : BitVec 5} (h : loadsTag op = false) (va : Dword) (pa : PAddr) :
    (s.cacheOp op va pa).Holds s.Evolves := by
  have ite {c : Bool} {r : Res Unit} (hr : r.Holds s.Evolves) : (if c then r else .ok () s).Holds s.Evolves := by
    split
    · exact hr
    · exact .ok (.refl s)
  unfold State.cacheOp
  split
  next => exact s.indexInvalidateI_evolves va
  next => exact s.indexWriteBackInvalidateD_evolves va
  next e => exact absurd h (by simp [loadsTag, show op = 4 from BitVec.eq_of_toNat_eq e])
  next e => exact absurd h (by simp [loadsTag, show op = 5 from BitVec.eq_of_toNat_eq e])
  next => exact .ok (s.evolves_setILine (iIndex_lt va) _)
  next => exact .ok (s.evolves_setDLine (dIndex_lt va) _)
  next => exact s.createDirtyExclusive_evolves va pa
  next => exact ite (s.indexInvalidateI_evolves va)
  next => exact ite (.ok (s.evolves_setDLine (dIndex_lt va) _))
  next => exact s.refillI_evolves _ (iIndex_lt va) pa
  next => exact ite (s.indexWriteBackInvalidateD_evolves va)
  next => exact s.hitWriteBackI_evolves va pa
  next => exact s.hitWriteBackD_evolves va pa
  next => exact .ok (.refl s)

/-- Index_Load_Tag changes TagLo only. -/
theorem State.cacheOp_loadTag {op : BitVec 5} (h : loadsTag op = true) (va : Dword) (pa : PAddr) :
    s.cacheOp op va pa = .ok () { s with cp0 := { s.cp0 with
      tagLo := if op = 4 then (s.iLine (iIndex va)).tagLo else (s.dLine (dIndex va)).tagLo } } := by
  have : op = 4 ∨ op = 5 := by simpa [loadsTag] using h
  rcases this with rfl | rfl <;> rfl

/-! ### Translation -/

/-- A translation that answers leaves the state alone; one that raises may set Status.TS. -/
theorem State.translate_cases (w : Bool) (a : Dword) :
    (∃ t, s.translate w a = .ok t s) ∨ ∃ e b, s.translate w a = .raise e { s with tlbShutdown := b } := by
  unfold State.translate
  split
  · exact .inr ⟨_, s.tlbShutdown, rfl⟩
  · exact .inl ⟨_, rfl⟩
  · unfold State.tlbTranslate
    split
    · exact .inr ⟨_, s.tlbShutdown, rfl⟩
    · dsimp only
      split
      · exact .inr ⟨_, s.tlbShutdown, rfl⟩
      · split
        · exact .inr ⟨_, s.tlbShutdown, rfl⟩
        · exact .inl ⟨_, rfl⟩
    · exact .inr ⟨_, true, rfl⟩

theorem State.translate_evolves (w : Bool) (a : Dword) : (s.translate w a).Holds s.Evolves := by
  rcases s.translate_cases w a with ⟨t, h⟩ | ⟨e, b, h⟩ <;> rw [h]
  · exact .ok (.refl s)
  · exact .raise (s.evolves_tlbShutdown b)

theorem State.checkWatch_evolves (w : Bool) (t : Target) : (s.checkWatch w t).Holds s.Evolves := by
  unfold State.checkWatch
  split
  · split
    · exact .ok (s.evolves_watchPending true)
    · exact .raise (.refl s)
  · exact .ok (.refl s)

theorem State.dataTarget_evolves (w : Bool) (align : Nat) (va : Dword) : (s.dataTarget w align va).Holds s.Evolves := by
  unfold State.dataTarget
  split
  · exact .raise (.refl s)
  · exact (s.translate_evolves w va).then fun t u => u.checkWatch_evolves w t

/-! ### Access functions -/

/-- All that a load can do before its register is written. -/
theorem State.load_evolves (align : Nat) (va : Dword) (lo n : Nat) : (s.load align va lo n).Holds s.Evolves := by
  refine (s.dataTarget_evolves _ _ _).then fun t u => ?_
  split
  · exact u.cachedRead_evolves _ _ _ _
  · exact u.busRead_evolves _ _ _

/-- All that a store can do. -/
theorem State.store_evolves (align : Nat) (va : Dword) (lo n : Nat) (v : Dword) :
    (s.store align va lo n v).Holds s.Evolves := by
  refine (s.dataTarget_evolves _ _ _).then fun t u => ?_
  split
  · exact u.cachedWrite_evolves _ _ _ _ _
  · exact .ok (u.evolves_busWrite _ _ _)

theorem State.fetchTarget_evolves : s.fetchTarget.Holds s.Evolves := by
  unfold State.fetchTarget
  split
  · exact .raise (.refl s)
  · exact s.translate_evolves _ _

theorem State.readInstruction_evolves (va : Dword) (t : Target) : (s.readInstruction va t).Holds s.Evolves := by
  unfold State.readInstruction
  split
  · exact s.cachedFetch_evolves _ _
  · exact s.busRead_evolves _ _ _

theorem Res.Holds.left {α : Type} {p : State → Prop} {r : Res α} {s : State} (h : r.Holds p) (hs : p s) : p (r.left s) := by
  cases h with
  | ok h => exact h
  | raise h => exact h
  | fault => exact hs

theorem State.evolves_fetchDiscarded (va : Dword) : s.Evolves (s.fetchDiscarded va) := by
  have h := s.translate_evolves false va
  unfold State.fetchDiscarded
  generalize s.translate false va = r at h
  cases h with
  | ok h => exact h.trans ((State.readInstruction_evolves _ va _).left (.refl _))
  | raise => exact .refl s
  | fault => exact .refl s

/-- All that the fetch behind the delay slot of a taken branch can do. -/
theorem State.evolves_fetchBehindSlot : s.Evolves s.fetchBehindSlot := by
  unfold State.fetchBehindSlot
  split
  · exact s.evolves_fetchDiscarded _
  · exact .refl s

/-- All that a fetch can do. -/
theorem State.fetchWord_evolves (t : Target) : (s.fetchWord t).Holds s.Evolves :=
  (s.readInstruction_evolves s.pc t).then fun _ u => .ok u.evolves_fetchBehindSlot

/-- All that CACHE can do, but for Index_Load_Tag. -/
theorem State.cacheEffect_evolves {op : BitVec 5} (h : loadsTag op = false) (va : Dword) :
    (s.cacheEffect op va).Holds s.Evolves := by
  unfold State.cacheEffect
  split
  · exact .raise (.refl s)
  · refine (s.translate_evolves _ _).then fun t u => ?_
    split
    · exact u.cacheOp_evolves h va _
    · exact .ok (.refl u)

end Sys2Proof.Machine
end

