-- ==== Sys2Proof/Laws/Encoding.lean ====
section
/-! SUPPORT. The fields of an encoded word: what the decoder reads is what the encoder wrote, and what the masks of the
opcode table leave. -/
namespace Sys2Proof

/-! ### Register form -/

/-- The bits of the word are those of its fields in order. -/
theorem getLsbD_encodeR (op : BitVec 6) (rs rt rd sa : BitVec 5) (f : BitVec 6) (i : Nat) :
    (encodeR op rs rt rd sa f).getLsbD i = (op ++ rs ++ rt ++ rd ++ sa ++ f).getLsbD i := rfl

@[simp] theorem opOf_encodeR (op : BitVec 6) (rs rt rd sa : BitVec 5) (f : BitVec 6) :
    opOf (encodeR op rs rt rd sa f) = op := by
  apply BitVec.eq_of_getLsbD_eq; intro i hi
  simp only [opOf, BitVec.getLsbD_extractLsb', getLsbD_encodeR, BitVec.getLsbD_append]
  interval_cases i <;> simp

@[simp] theorem rsOf_encodeR (op : BitVec 6) (rs rt rd sa : BitVec 5) (f : BitVec 6) :
    rsOf (encodeR op rs rt rd sa f) = rs := by
  apply BitVec.eq_of_getLsbD_eq; intro i hi
  simp only [rsOf, BitVec.getLsbD_extractLsb', getLsbD_encodeR, BitVec.getLsbD_append]
  interval_cases i <;> simp

@[simp] theorem rtOf_encodeR (op : BitVec 6) (rs rt rd sa : BitVec 5) (f : BitVec 6) :
    rtOf (encodeR op rs rt rd sa f) = rt := by
  apply BitVec.eq_of_getLsbD_eq; intro i hi
  simp only [rtOf, BitVec.getLsbD_extractLsb', getLsbD_encodeR, BitVec.getLsbD_append]
  interval_cases i <;> simp

@[simp] theorem rdOf_encodeR (op : BitVec 6) (rs rt rd sa : BitVec 5) (f : BitVec 6) :
    rdOf (encodeR op rs rt rd sa f) = rd := by
  apply BitVec.eq_of_getLsbD_eq; intro i hi
  simp only [rdOf, BitVec.getLsbD_extractLsb', getLsbD_encodeR, BitVec.getLsbD_append]
  interval_cases i <;> simp

@[simp] theorem saOf_encodeR (op : BitVec 6) (rs rt rd sa : BitVec 5) (f : BitVec 6) :
    saOf (encodeR op rs rt rd sa f) = sa := by
  apply BitVec.eq_of_getLsbD_eq; intro i hi
  simp only [saOf, BitVec.getLsbD_extractLsb', getLsbD_encodeR, BitVec.getLsbD_append]
  interval_cases i <;> simp

@[simp] theorem functOf_encodeR (op : BitVec 6) (rs rt rd sa : BitVec 5) (f : BitVec 6) :
    functOf (encodeR op rs rt rd sa f) = f := by
  apply BitVec.eq_of_getLsbD_eq; intro i hi
  simp only [functOf, BitVec.getLsbD_extractLsb', getLsbD_encodeR, BitVec.getLsbD_append]
  interval_cases i <;> simp

@[simp] theorem maccOf_encodeR (op : BitVec 6) (rs rt rd sa : BitVec 5) (f : BitVec 6) :
    maccOf (encodeR op rs rt rd sa f) = (sa.extractLsb' 3 2 ++ sa.extractLsb' 0 1 : BitVec 3) := by
  apply BitVec.eq_of_getLsbD_eq; intro i hi
  simp only [maccOf, BitVec.getLsbD_extractLsb', getLsbD_encodeR, BitVec.getLsbD_append]
  interval_cases i <;> simp

/-- What the table's mask 0xFC00003F leaves. -/
theorem encodeR_and_op_funct (op : BitVec 6) (rs rt rd sa : BitVec 5) (f : BitVec 6) :
    encodeR op rs rt rd sa f &&& 0xFC00003F = ((op ++ (0 : BitVec 20) : BitVec 26) ++ f : BitVec 32) := by
  apply BitVec.eq_of_getLsbD_eq; intro i hi
  simp only [BitVec.getLsbD_and, getLsbD_encodeR, BitVec.getLsbD_append]
  interval_cases i <;> simp

/-- What the table's mask 0xFC00067F leaves. -/
theorem encodeR_and_macc (op : BitVec 6) (rs rt rd sa : BitVec 5) (f : BitVec 6) :
    encodeR op rs rt rd sa f &&& 0xFC00067F = encodeR op 0 0 0 (sa &&& 0x19) f := by
  apply BitVec.eq_of_getLsbD_eq; intro i hi
  simp only [BitVec.getLsbD_and, getLsbD_encodeR, BitVec.getLsbD_append]
  interval_cases i <;> simp

/-- What the table's mask 0xFFE00000 leaves. -/
theorem encodeR_and_op_rs (op : BitVec 6) (rs rt rd sa : BitVec 5) (f : BitVec 6) :
    encodeR op rs rt rd sa f &&& 0xFFE00000 = encodeR op rs 0 0 0 0 := by
  apply BitVec.eq_of_getLsbD_eq; intro i hi
  simp only [BitVec.getLsbD_and, getLsbD_encodeR, BitVec.getLsbD_append]
  interval_cases i <;> simp

/-- What the table's mask 0xFE00003F leaves. -/
theorem encodeR_and_co (op : BitVec 6) (rs rt rd sa : BitVec 5) (f : BitVec 6) :
    encodeR op rs rt rd sa f &&& 0xFE00003F = encodeR op (rs &&& 0x10) 0 0 0 f := by
  apply BitVec.eq_of_getLsbD_eq; intro i hi
  simp only [BitVec.getLsbD_and, getLsbD_encodeR, BitVec.getLsbD_append]
  interval_cases i <;> simp

/-! ### Immediate form -/

/-- The bits of the word are those of its fields in order. -/
theorem getLsbD_encodeI (op : BitVec 6) (rs rt : BitVec 5) (imm : Half) (i : Nat) :
    (encodeI op rs rt imm).getLsbD i = (op ++ rs ++ rt ++ imm).getLsbD i := rfl

@[simp] theorem opOf_encodeI (op : BitVec 6) (rs rt : BitVec 5) (imm : Half) :
    opOf (encodeI op rs rt imm) = op := by
  apply BitVec.eq_of_getLsbD_eq; intro i hi
  simp only [opOf, BitVec.getLsbD_extractLsb', getLsbD_encodeI, BitVec.getLsbD_append]
  interval_cases i <;> simp

@[simp] theorem rsOf_encodeI (op : BitVec 6) (rs rt : BitVec 5) (imm : Half) :
    rsOf (encodeI op rs rt imm) = rs := by
  apply BitVec.eq_of_getLsbD_eq; intro i hi
  simp only [rsOf, BitVec.getLsbD_extractLsb', getLsbD_encodeI, BitVec.getLsbD_append]
  interval_cases i <;> simp

@[simp] theorem rtOf_encodeI (op : BitVec 6) (rs rt : BitVec 5) (imm : Half) :
    rtOf (encodeI op rs rt imm) = rt := by
  apply BitVec.eq_of_getLsbD_eq; intro i hi
  simp only [rtOf, BitVec.getLsbD_extractLsb', getLsbD_encodeI, BitVec.getLsbD_append]
  interval_cases i <;> simp

@[simp] theorem immOf_encodeI (op : BitVec 6) (rs rt : BitVec 5) (imm : Half) :
    immOf (encodeI op rs rt imm) = imm := by
  apply BitVec.eq_of_getLsbD_eq; intro i hi
  simp only [immOf, BitVec.getLsbD_extractLsb', getLsbD_encodeI, BitVec.getLsbD_append]
  interval_cases i <;> simp

/-- What the table's mask 0xFC000000 leaves. -/
theorem encodeI_and_op (op : BitVec 6) (rs rt : BitVec 5) (imm : Half) :
    encodeI op rs rt imm &&& 0xFC000000 = encodeI op 0 0 0 := by
  apply BitVec.eq_of_getLsbD_eq; intro i hi
  simp only [BitVec.getLsbD_and, getLsbD_encodeI, BitVec.getLsbD_append]
  interval_cases i <;> simp

/-- What the table's mask 0xFC1F0000 leaves. -/
theorem encodeI_and_op_rt (op : BitVec 6) (rs rt : BitVec 5) (imm : Half) :
    encodeI op rs rt imm &&& 0xFC1F0000 = encodeI op 0 rt 0 := by
  apply BitVec.eq_of_getLsbD_eq; intro i hi
  simp only [BitVec.getLsbD_and, getLsbD_encodeI, BitVec.getLsbD_append]
  interval_cases i <;> simp

/-- What the table's mask 0xFFFF0000 leaves. -/
theorem encodeI_and_op_rs_rt (op : BitVec 6) (rs rt : BitVec 5) (imm : Half) :
    encodeI op rs rt imm &&& 0xFFFF0000 = encodeI op rs rt 0 := by
  apply BitVec.eq_of_getLsbD_eq; intro i hi
  simp only [BitVec.getLsbD_and, getLsbD_encodeI, BitVec.getLsbD_append]
  interval_cases i <;> simp

/-! ### Jump form -/

/-- The bits of the word are those of its fields in order. -/
theorem getLsbD_encodeJ (op : BitVec 6) (target : BitVec 26) (i : Nat) :
    (encodeJ op target).getLsbD i = (op ++ target).getLsbD i := rfl

@[simp] theorem opOf_encodeJ (op : BitVec 6) (target : BitVec 26) :
    opOf (encodeJ op target) = op := by
  apply BitVec.eq_of_getLsbD_eq; intro i hi
  simp only [opOf, BitVec.getLsbD_extractLsb', getLsbD_encodeJ, BitVec.getLsbD_append]
  interval_cases i <;> simp

@[simp] theorem targetOf_encodeJ (op : BitVec 6) (target : BitVec 26) :
    targetOf (encodeJ op target) = target := by
  apply BitVec.eq_of_getLsbD_eq; intro i hi
  simp only [targetOf, BitVec.getLsbD_extractLsb', getLsbD_encodeJ, BitVec.getLsbD_append]
  interval_cases i <;> simp

/-- What the table's mask 0xFC000000 leaves. -/
theorem encodeJ_and_op (op : BitVec 6) (target : BitVec 26) :
    encodeJ op target &&& 0xFC000000 = encodeJ op 0 := by
  apply BitVec.eq_of_getLsbD_eq; intro i hi
  simp only [BitVec.getLsbD_and, getLsbD_encodeJ, BitVec.getLsbD_append]
  interval_cases i <;> simp

/-! ### SYSCALL and BREAK -/

/-- The bits of the word are those of its fields in order. -/
theorem getLsbD_encodeCode (code : BitVec 20) (f : BitVec 6) (i : Nat) :
    (encodeCode code f).getLsbD i = ((0 : BitVec 6) ++ code ++ f).getLsbD i := rfl

@[simp] theorem opOf_encodeCode (code : BitVec 20) (f : BitVec 6) :
    opOf (encodeCode code f) = 0 := by
  apply BitVec.eq_of_getLsbD_eq; intro i hi
  simp only [opOf, BitVec.getLsbD_extractLsb', getLsbD_encodeCode, BitVec.getLsbD_append]
  interval_cases i <;> simp

@[simp] theorem code20Of_encodeCode (code : BitVec 20) (f : BitVec 6) :
    code20Of (encodeCode code f) = code := by
  apply BitVec.eq_of_getLsbD_eq; intro i hi
  simp only [code20Of, BitVec.getLsbD_extractLsb', getLsbD_encodeCode, BitVec.getLsbD_append]
  interval_cases i <;> simp

@[simp] theorem functOf_encodeCode (code : BitVec 20) (f : BitVec 6) :
    functOf (encodeCode code f) = f := by
  apply BitVec.eq_of_getLsbD_eq; intro i hi
  simp only [functOf, BitVec.getLsbD_extractLsb', getLsbD_encodeCode, BitVec.getLsbD_append]
  interval_cases i <;> simp

/-- What the table's mask 0xFC00003F leaves. -/
theorem encodeCode_and_op_funct (code : BitVec 20) (f : BitVec 6) :
    encodeCode code f &&& 0xFC00003F = encodeCode 0 f := by
  apply BitVec.eq_of_getLsbD_eq; intro i hi
  simp only [BitVec.getLsbD_and, getLsbD_encodeCode, BitVec.getLsbD_append]
  interval_cases i <;> simp

/-! ### Register traps -/

/-- The bits of the word are those of its fields in order. -/
theorem getLsbD_encodeTrap (rs rt : Reg) (code : BitVec 10) (f : BitVec 6) (i : Nat) :
    (encodeTrap rs rt code f).getLsbD i = ((0 : BitVec 6) ++ rs ++ rt ++ code ++ f).getLsbD i := rfl

@[simp] theorem opOf_encodeTrap (rs rt : Reg) (code : BitVec 10) (f : BitVec 6) :
    opOf (encodeTrap rs rt code f) = 0 := by
  apply BitVec.eq_of_getLsbD_eq; intro i hi
  simp only [opOf, BitVec.getLsbD_extractLsb', getLsbD_encodeTrap, BitVec.getLsbD_append]
  interval_cases i <;> simp

@[simp] theorem rsOf_encodeTrap (rs rt : Reg) (code : BitVec 10) (f : BitVec 6) :
    rsOf (encodeTrap rs rt code f) = rs := by
  apply BitVec.eq_of_getLsbD_eq; intro i hi
  simp only [rsOf, BitVec.getLsbD_extractLsb', getLsbD_encodeTrap, BitVec.getLsbD_append]
  interval_cases i <;> simp

@[simp] theorem rtOf_encodeTrap (rs rt : Reg) (code : BitVec 10) (f : BitVec 6) :
    rtOf (encodeTrap rs rt code f) = rt := by
  apply BitVec.eq_of_getLsbD_eq; intro i hi
  simp only [rtOf, BitVec.getLsbD_extractLsb', getLsbD_encodeTrap, BitVec.getLsbD_append]
  interval_cases i <;> simp

@[simp] theorem code10Of_encodeTrap (rs rt : Reg) (code : BitVec 10) (f : BitVec 6) :
    code10Of (encodeTrap rs rt code f) = code := by
  apply BitVec.eq_of_getLsbD_eq; intro i hi
  simp only [code10Of, BitVec.getLsbD_extractLsb', getLsbD_encodeTrap, BitVec.getLsbD_append]
  interval_cases i <;> simp

@[simp] theorem functOf_encodeTrap (rs rt : Reg) (code : BitVec 10) (f : BitVec 6) :
    functOf (encodeTrap rs rt code f) = f := by
  apply BitVec.eq_of_getLsbD_eq; intro i hi
  simp only [functOf, BitVec.getLsbD_extractLsb', getLsbD_encodeTrap, BitVec.getLsbD_append]
  interval_cases i <;> simp

/-- What the table's mask 0xFC00003F leaves. -/
theorem encodeTrap_and_op_funct (rs rt : Reg) (code : BitVec 10) (f : BitVec 6) :
    encodeTrap rs rt code f &&& 0xFC00003F = encodeTrap 0 0 0 f := by
  apply BitVec.eq_of_getLsbD_eq; intro i hi
  simp only [BitVec.getLsbD_and, getLsbD_encodeTrap, BitVec.getLsbD_append]
  interval_cases i <;> simp

end Sys2Proof
end

