-- ==== Sys2Proof/Laws/Env.lean ====
section
/-! SUPPORT. What can happen between two instructions, said once. -/
namespace Sys2Proof.Machine

variable (s : State)

/-! ### Memory as the bus masters see it -/

theorem State.evolves_masterByte (a : Nat) (b : Byte) : s.Evolves (s.masterByte a b) := by
  unfold State.masterByte
  split
  · exact (s.lands_writeFifo _).evolves
  · split
    · exact (s.lands_posted _).evolves
    · exact s.evolves_mem fun h => Memory.wf_setByte h _ _

theorem State.lands_checkMaster (l : List Nat) : s.Lands (s.checkMaster l) := by
  unfold State.checkMaster
  split
  · exact s.lands_nmiCause _
  · exact .refl s

theorem State.lands_readForMaster (l : List Nat) : s.Lands (s.readForMaster l).2 := by
  unfold State.readForMaster
  split
  · exact .refl s
  · dsimp only
    split
    · exact s.lands_latchRead _ _
    · exact s.lands_readWindow _ _

theorem State.evolves_foldl {α : Type} (f : State → α → State) (hf : ∀ (t : State) (a : α), t.Evolves (f t a)) (l : List α) :
    s.Evolves (l.foldl f s) := by
  induction l generalizing s with
  | nil => exact .refl s
  | cons a l ih => exact (hf s a).trans (ih _)

/-- All that the bytes a bus master stores can do. -/
theorem State.evolves_dmaStore (bytes : List Host.Cell) : s.Evolves (s.dmaStore bytes) := by
  refine (s.lands_checkMaster _).evolves.trans ((State.evolves_foldl _ _ (fun t c => ?_) _).trans
    (State.evolves_foldl _ _ (fun t run => (t.lands_writeWindow _ _ _).evolves) _))
  unfold State.storeByte
  split
  · exact t.evolves_masterByte _ _
  · exact .refl t

/-- All that an access of a bus master can do: `put` stores the block, in a state where the core, memory and the sparse maps are those
from before. -/
theorem State.evolves_access {σ : Type} {put : State → σ → State} {d : DmaStep σ}
    (h : ∀ t p, s.Lands t → t.Evolves (put t (d.next p).1)) : s.Evolves (s.access put d) := by
  have read := s.lands_readForMaster ((List.range d.count).map (d.addr + ·))
  unfold State.access
  dsimp only
  split
  next e => rw [e] at read; exact read.evolves
  next e =>
    rw [e] at read
    have before := read.trans (State.lands_checkMaster _ ((List.range d.count).map (d.addr + ·)))
    exact before.evolves.trans ((h _ _ before).trans (State.evolves_dmaStore _ _))

/-! ### Events -/

/-- A device's sparse maps stay canonical when the device is replaced. -/
theorem State.evolves_atm_wf {d : Atm}
    (hw : cellWf 0 0 s.atm.workRam = true → cellWf 0 0 d.workRam = true)
    (hl : cellWf 0 0 s.atm.lookup = true → cellWf 0 0 d.lookup = true) : s.Evolves { s with atm := d } := by
  constructor <;> first | rfl | skip
  intro c
  rw [State.canonical_iff] at *
  exact ⟨c.1, c.2.1, hw c.2.2.1, hl c.2.2.2⟩

theorem cellWf_putWords {m : List (Nat × Word)} (h : cellWf 0 0 m = true) (ws : List (Nat × Word)) :
    cellWf 0 0 (putWords m ws) = true := by
  unfold putWords
  induction ws with
  | nil => exact h
  | cons w ws ih => exact cellWf_cellSet ih (Nat.zero_le _)

theorem Atm.publish_maps (a : Atm) : a.publish.workRam = a.workRam ∧ a.publish.lookup = a.lookup := by
  unfold Atm.publish
  split
  · exact ⟨rfl, rfl⟩
  · dsimp only
    split <;> exact ⟨rfl, rfl⟩

theorem Atm.checkBus_maps (a : Atm) (ok : Bool) : (a.checkBus ok).workRam = a.workRam ∧ (a.checkBus ok).lookup = a.lookup := by
  unfold Atm.checkBus; split <;> exact ⟨rfl, rfl⟩

/-- A block whose sparse maps are canonical if those of `a` are. -/
structure Atm.KeepsMaps (a b : Atm) : Prop where
  workRam : cellWf 0 0 a.workRam = true → cellWf 0 0 b.workRam = true
  lookup : cellWf 0 0 a.lookup = true → cellWf 0 0 b.lookup = true

theorem Atm.KeepsMaps.of_eq {a b : Atm} (h : b.workRam = a.workRam ∧ b.lookup = a.lookup) : a.KeepsMaps b :=
  ⟨by rw [h.1]; exact id, by rw [h.2]; exact id⟩

theorem Atm.settle_keepsMaps (a : Atm) (x : AtmAct) : a.KeepsMaps (x.settle a) where
  workRam h := by rw [AtmAct.settle, (publish_maps _).1]; exact cellWf_putWords h _
  lookup h := by rw [AtmAct.settle, (publish_maps _).2]; exact cellWf_putWords h _

theorem Atm.transfer_keepsMaps (a : Atm) (n : Nat) (p : Port) : a.KeepsMaps (a.transfer n p).1 := by
  unfold Atm.transfer
  split
  · exact .of_eq ⟨rfl, rfl⟩
  · refine .of_eq ⟨?_, ?_⟩
    · exact (checkBus_maps _ _).1.trans (publish_maps _).1
    · exact (checkBus_maps _ _).2.trans (publish_maps _).2

/-- All that a cell coming in does: it is an idle or unassigned one and leaves no trace, or it goes behind the others of the receive SAR
FIFO, in which there was room. -/
theorem Atm.accept_cases {a b : Atm} {c : AtmCell} (h : a.accept c = some b) :
    a.gmr.getLsbD 0 = true ∧ (b = a ∧ c.header.extractLsb' 4 24 = (0 : BitVec 24) ∨
      b = { a with rxFifo := a.rxFifo ++ [c] } ∧ a.rxFifo.length < sarFifoCells) := by
  unfold Atm.accept at h
  split at h
  · cases h
  · next re =>
    refine ⟨by simpa using re, ?_⟩
    split at h
    · next idle => exact .inl ⟨(Option.some.inj h).symm, idle⟩
    · split at h
      · next room => exact .inr ⟨(Option.some.inj h).symm, room⟩
      · cases h

theorem Atm.accept_maps {a b : Atm} {c : AtmCell} (h : a.accept c = some b) : b.workRam = a.workRam ∧ b.lookup = a.lookup := by
  obtain ⟨-, ⟨rfl, -⟩ | ⟨rfl, -⟩⟩ := accept_cases h <;> exact ⟨rfl, rfl⟩

theorem Atm.arrive_keepsMaps (a : Atm) (c : AtmCell) : a.KeepsMaps (a.arrive c) := by
  apply KeepsMaps.of_eq
  unfold Atm.arrive
  split
  · exact ⟨rfl, rfl⟩
  · cases h : a.accept c with
    | none => exact ⟨rfl, rfl⟩
    | some b => exact accept_maps h

theorem Atm.depart_keepsMaps (a : Atm) (phy : BitVec 5) (hec : Byte) : a.KeepsMaps (a.depart phy hec) := by
  apply KeepsMaps.of_eq
  unfold Atm.depart
  split
  · exact ⟨rfl, rfl⟩
  · split
    · split
      · exact ⟨rfl, rfl⟩
      · next c rest _ =>
        cases h : Atm.accept { c with hec := hec } { a with txFifo := rest } with
        | none => exact ⟨rfl, rfl⟩
        | some b =>
          have k := accept_maps h
          exact k
    · split <;> exact ⟨rfl, rfl⟩

/-- An action of the block keeps the work RAM and the lookup table in canonical form. -/
theorem Atm.event_keepsMaps (a : Atm) (um r g : Bool) (e : AtmEvent) (p : Port) :
    a.KeepsMaps ((a.event um r g e).next p).1 := by
  have same : a.KeepsMaps a := .of_eq ⟨rfl, rfl⟩
  have guard {c : Bool} {d : DmaStep Atm} (h : a.KeepsMaps (d.next p).1) : a.KeepsMaps ((DmaStep.guard c a d).next p).1 := by
    unfold DmaStep.guard
    split
    · exact h
    · exact same
  unfold Atm.event
  split
  · exact guard (depart_keepsMaps a _ _)
  · exact guard (arrive_keepsMaps a _)
  · exact guard (.of_eq (checkBus_maps _ _))
  · exact guard (guard (transfer_keepsMaps a _ p))
  · refine guard (guard ?_)
    unfold Atm.attempt
    split
    · exact settle_keepsMaps a _
    · exact .of_eq (checkBus_maps _ _)
    · exact same

theorem State.evolves_atmEvent (e : AtmEvent) : s.Evolves (s.atmEvent e) :=
  s.evolves_access fun t p h => by
    have k := Atm.event_keepsMaps s.atm s.syscon.umint (s.runs .atm) (s.granted .atm) e p
    exact t.evolves_atm_wf (by rw [h.workRam]; exact k.workRam) (by rw [h.lookup]; exact k.lookup)

theorem State.evolves_usbEvent (e : UsbEvent) : s.Evolves (s.usbEvent e) :=
  s.evolves_access fun t _ _ => (t.lands_usb _).evolves

theorem State.evolves_eth1Event (e : EthEvent) : s.Evolves (s.eth1Event e) := by
  unfold State.eth1Event
  split
  · exact s.evolves_access fun t _ _ => (t.lands_eth1 _).evolves
  · exact .refl s

theorem State.evolves_eth2Event (e : EthEvent) : s.Evolves (s.eth2Event e) := by
  unfold State.eth2Event
  split
  · exact s.evolves_access fun t _ _ => (t.lands_eth2 _).evolves
  · exact .refl s

theorem State.lands_samplePhint : s.Lands s.samplePhint := by
  unfold State.samplePhint
  split
  · exact .refl s
  · exact s.lands_pci _

theorem State.evolves_pciEvent (e : PciEvent) : s.Evolves (s.pciEvent e) := by
  refine .trans ?_ (State.lands_samplePhint _).evolves
  split
  · exact (s.lands_pci _).evolves
  · exact .refl s

theorem acceptReply_evolves {σ : Type} {put : σ → State} {r : DevReply σ} (h : s.Evolves (put r.dev)) :
    ∀ t, acceptReply put r = some t → s.Evolves t := by
  intro t ht
  unfold acceptReply at ht
  split at ht
  · cases ht; exact h
  · cases ht

theorem State.masterRead_evolves (a : Nat) (be : Lanes) : ∀ t, s.masterRead a be = some t → s.Evolves t := by
  intro t
  unfold State.masterRead
  split
  · rintro ⟨⟩; exact .refl s
  · rintro ⟨⟩; exact .refl s
  · split
    · rintro ⟨⟩
    · split
      · exact acceptReply_evolves s (s.lands_usb _).evolves t
      · exact acceptReply_evolves s (s.lands_eth1 _).evolves t
      · exact acceptReply_evolves s (s.lands_atm (Atm.read_maps _ _ _).1 (Atm.read_maps _ _ _).2).evolves t
      · exact acceptReply_evolves s (s.lands_eth2 _).evolves t
      · rintro ⟨⟩
      · rintro ⟨⟩
  · rintro ⟨⟩

theorem State.masterWrite_evolves (a : Nat) (be : Lanes) (v : Word) :
    ∀ t, s.masterWrite a be v = some t → s.Evolves t := by
  intro t
  unfold State.masterWrite
  split
  · rintro ⟨⟩; exact s.evolves_dmaStore _
  · split
    · rintro ⟨⟩
    · split
      · exact acceptReply_evolves s (s.lands_usb _).evolves t
      · exact acceptReply_evolves s (s.lands_eth1 _).evolves t
      · exact acceptReply_evolves s (s.lands_atm (Atm.write_maps _ _ _ _).1 (Atm.write_maps _ _ _ _).2).evolves t
      · exact acceptReply_evolves s (s.lands_eth2 _).evolves t
      · rintro ⟨⟩
      · rintro ⟨⟩
  · rintro ⟨⟩

theorem State.evolves_masterReads (count a : Nat) (be : Lanes) : s.Evolves (s.masterReads count a be).2 := by
  induction count generalizing s a be with
  | zero => exact .refl s
  | succ n ih =>
    rw [State.masterReads]
    split
    · exact (s.lands_checkMaster _).evolves.trans (State.evolves_pciEvent _ _)
    · next t ht => exact (s.masterRead_evolves a be t ht).trans (ih _ _ _)

theorem State.evolves_prefetch (off : BitVec 22) (be : Lanes) (c : PciCommand) : s.Evolves (s.prefetch off be c) := by
  have read := s.evolves_masterReads (min (s.pci.prefetchWords c) (wordsToBoundary off)) (s.masterAddress off) be
  unfold State.prefetch
  dsimp only
  split
  · exact read.trans (State.lands_pci _ _).evolves
  · exact read

/-- All that a read by a PCI master can do. -/
theorem State.evolves_windowReadBy (off : BitVec 22) (be : Lanes) (c : PciCommand) : s.Evolves (s.windowReadBy off be c) := by
  unfold State.windowReadBy
  split
  · split
    · exact s.evolves_prefetch _ _ _
    · split
      · exact (s.lands_pci _).evolves
      · exact .refl s
  · exact .refl s

/-- All that a write by a PCI master can do. -/
theorem State.evolves_windowWriteBy (off : BitVec 22) (be : Lanes) (v : Word) : s.Evolves (s.windowWriteBy off be v) := by
  unfold State.windowWriteBy
  dsimp only
  split
  · cases h : s.masterWrite (s.masterAddress off) be v with
    | none => exact (s.lands_checkMaster _).evolves.trans (State.evolves_pciEvent _ _)
    | some t => exact s.masterWrite_evolves _ _ _ t h
  · exact .refl s

/-- All that an event can do: it reaches the devices and memory, never the core. -/
theorem State.evolves_event (e : Event) : s.Evolves (s.event e) := by
  cases e with
  | reset => exact (s.lands_syscon _).evolves
  | sys e =>
    show s.Evolves (if e.fromAtm && (!s.atm.running || s.syscon.stopped .atm) then s else { s with syscon := s.syscon.event e })
    split
    · exact .refl s
    · exact (s.lands_syscon _).evolves
  | uart e => exact (s.lands_uart _).evolves
  | microWire => exact (s.lands_draw.trans (State.lands_microWire _ _)).evolves
  | usb e => exact s.evolves_usbEvent e
  | eth1 e => exact s.evolves_eth1Event e
  | eth2 e => exact s.evolves_eth2Event e
  | atm e => exact s.evolves_atmEvent e
  | pci e => exact s.evolves_pciEvent e
  | pciMasterRead off be c => exact s.evolves_windowReadBy off be c
  | pciMasterWrite off be v => exact s.evolves_windowWriteBy off be v

theorem State.evolves_events (es : List Event) :
    s.Evolves (es.foldl (fun s e => (s.event e).capture) s) := by
  induction es generalizing s with
  | nil => exact .refl s
  | cons e es ih => exact ((s.evolves_event e).trans (State.lands_capture _).evolves).trans (ih _)

/-- All that the events before a step can do, besides being used up. -/
theorem State.evolves_takeInputs : State.Evolves { s with inputs := s.inputs.tail } s.takeInputs := by
  unfold State.takeInputs
  split
  next h =>
    have e : ({ s with inputs := s.inputs.tail } : State) = s := by rw [h, List.tail_nil, ← h]
    rw [e]; exact .refl s
  next h => rw [h]; exact State.evolves_events _ _

/-! ### All that happens between two instructions -/

/-- `t` is `s` after what happens between two instructions: the core's registers stay, but for Count and the timer
interrupt bit; the sparse maps stay canonical. -/
structure State.Settled (s t : State) : Prop where
  gpr : t.gpr = s.gpr
  hi : t.hi = s.hi
  lo : t.lo = s.lo
  pc : t.pc = s.pc
  slot : t.slot = s.slot
  tlb : t.tlb = s.tlb
  board : t.board = s.board
  cp0 : t.cp0 = { s.cp0 with count := t.cp0.count, cause := t.cp0.cause }
  cause : t.cp0.cause = s.cp0.cause ∨ t.cp0.cause = setBit s.cp0.cause 15 true
  steps : t.steps = s.steps + 1
  inputs : t.inputs = s.inputs.tail
  canonical : s.canonical = true → t.canonical = true

theorem State.wake_power_only : s.wake = { s with power := s.wake.power } := by
  unfold State.wake; split <;> rfl

theorem State.countTime_only (n : Nat) :
    s.countTime n = { s with
      countPre := (s.countTime n).countPre
      cp0 := { s.cp0 with count := (s.countTime n).cp0.count, cause := (s.countTime n).cp0.cause } } := by
  unfold State.countTime; split <;> rfl

theorem State.countTime_cause (n : Nat) :
    (s.countTime n).cp0.cause = s.cp0.cause ∨ (s.countTime n).cp0.cause = setBit s.cp0.cause 15 true := by
  unfold State.countTime
  split
  · exact .inl rfl
  · dsimp only
    split
    · exact .inr rfl
    · exact .inl rfl

theorem State.settled_passTime : s.passTime.gpr = s.gpr ∧ s.passTime.hi = s.hi ∧ s.passTime.lo = s.lo ∧
    s.passTime.pc = s.pc ∧ s.passTime.slot = s.slot ∧ s.passTime.tlb = s.tlb ∧ s.passTime.board = s.board ∧
    s.passTime.cp0 = { s.cp0 with count := s.passTime.cp0.count, cause := s.passTime.cp0.cause } ∧
    (s.passTime.cp0.cause = s.cp0.cause ∨ s.passTime.cp0.cause = setBit s.cp0.cause 15 true) ∧
    s.passTime.steps = s.steps + 1 ∧ s.passTime.inputs = s.inputs ∧
    (s.canonical = true → s.passTime.canonical = true) := by
  have hc := s.countTime_only (1 + Config.stepCycles s.steps)
  refine ⟨?_, ?_, ?_, ?_, ?_, ?_, ?_, ?_, s.countTime_cause _, ?_, ?_, ?_⟩
  · have := congrArg State.gpr hc; exact this
  · have := congrArg State.hi hc; exact this
  · have := congrArg State.lo hc; exact this
  · have := congrArg State.pc hc; exact this
  · have := congrArg State.slot hc; exact this
  · have := congrArg State.tlb hc; exact this
  · have := congrArg State.board hc; exact this
  · have := congrArg State.cp0 hc; exact this
  · rfl
  · have := congrArg State.inputs hc; exact this
  · intro c
    rw [State.canonical_iff] at *
    have hm : s.passTime.mem = s.mem := by have := congrArg State.mem hc; exact this
    have hd : s.passTime.dcache = s.dcache := by have := congrArg State.dcache hc; exact this
    have hi : s.passTime.icache = s.icache := by have := congrArg State.icache hc; exact this
    have hw : s.passTime.atm.workRam = s.atm.workRam := by have := congrArg (fun t => t.atm.workRam) hc; exact this
    have hl : s.passTime.atm.lookup = s.atm.lookup := by have := congrArg (fun t => t.atm.lookup) hc; exact this
    rw [hm, hd, hi, hw, hl]
    exact c

theorem State.lands_drain : s.Lands s.drain :=
  (s.lands_capture.trans (State.lands_landWrites _ _)).trans (State.lands_writeFifo _ _)

/-- All that happens between two instructions. -/
theorem State.settled_settle : s.Settled s.settle := by
  have h1 := (s.lands_drain.trans (State.lands_capture _)).evolves
  have h2 := s.drain.capture.evolves_takeInputs.trans s.drain.capture.takeInputs.lands_samplePhint.evolves
  obtain ⟨gpr, hi, lo, pc, slot, tlb, board, cp0, cause, steps, inputs, canonical⟩ :=
    s.drain.capture.takeInputs.samplePhint.settled_passTime
  have h3 := (s.drain.capture.takeInputs.samplePhint.passTime.lands_capture).evolves
  have h4 := s.drain.capture.takeInputs.samplePhint.passTime.capture.wake_power_only
  have hw {α : Type} (f : State → α) (hp : ∀ t p, f { t with power := p } = f t) :
      f s.settle = f s.drain.capture.takeInputs.samplePhint.passTime.capture := by rw [State.settle, h4, hp]
  have hcp0 : s.settle.cp0 = s.drain.capture.takeInputs.samplePhint.passTime.cp0 := by
    rw [hw State.cp0 fun _ _ => rfl]; exact h3.cp0
  have hin : s.drain.capture.takeInputs.samplePhint.cp0 = s.cp0 := h2.cp0.trans h1.cp0
  constructor
  · rw [hw State.gpr fun _ _ => rfl, h3.gpr, gpr, h2.gpr]; exact h1.gpr
  · rw [hw State.hi fun _ _ => rfl, h3.hi, hi, h2.hi]; exact h1.hi
  · rw [hw State.lo fun _ _ => rfl, h3.lo, lo, h2.lo]; exact h1.lo
  · rw [hw State.pc fun _ _ => rfl, h3.pc, pc, h2.pc]; exact h1.pc
  · rw [hw State.slot fun _ _ => rfl, h3.slot, slot, h2.slot]; exact h1.slot
  · rw [hw State.tlb fun _ _ => rfl, h3.tlb, tlb, h2.tlb]; exact h1.tlb
  · rw [hw State.board fun _ _ => rfl, h3.board, board, h2.board]; exact h1.board
  · rw [hcp0, cp0, hin]
  · rw [hcp0]; rwa [hin] at cause
  · rw [hw State.steps fun _ _ => rfl, h3.steps, steps, h2.steps]; exact congrArg (· + 1) h1.steps
  · rw [hw State.inputs fun _ _ => rfl, h3.inputs, inputs, h2.inputs]; exact congrArg List.tail h1.inputs
  · intro c
    have hd : ({ s.drain.capture with inputs := s.drain.capture.inputs.tail } : State).canonical = true := h1.canonical c
    rw [hw State.canonical fun _ _ => rfl]
    exact h3.canonical (canonical (h2.canonical hd))

end Sys2Proof.Machine
end

