-- ==== Sys2Proof/Laws/Exec.lean ====
section
/-! SUPPORT. How an instruction completes, said once for each of the shared operations that the meanings end in: writing a
result, HI and LO, jumping, trapping, and what taking an exception leaves alone. -/
namespace Sys2Proof.Machine

variable (s : State)

/-! ### Completing -/

theorem State.retire_retired {s u : State} (hp : u.pc = s.pc) (hs : u.slot = s.slot) (hc : u.cp0 = s.cp0) :
    Retired s u.retire where
  pc := by show u.nextPc = s.nextPc; unfold State.nextPc; rw [hp, hs]
  slot := rfl
  cp0 := by show { u.cp0 with random := u.cp0.nextRandom } = _; rw [hc]

/-- An instruction that writes one register, HI, LO and uses up free values. -/
theorem State.retire_writes (r : Reg) (v hi lo : Dword) (n : Nat) :
    WritesResults s (State.setReg { s with hi := hi, lo := lo, free := n } r v).retire r v hi lo where
  registers := fun q => by
    rw [State.retire_getReg, State.getReg_setReg]
    rfl
  hi := by simp
  lo := by simp
  memory := fun a => by simp
  retired := State.retire_retired (by simp) (by simp) (by simp)
  rest := by unfold SameOutsideCore State.setReg; split <;> rfl

/-- What an instruction does that only writes a general register. -/
theorem State.writeResult_spec (r : Reg) (v : Dword) : ∃ t, s.writeResult r v = .next t ∧ WritesOnly s t r v :=
  ⟨_, rfl, s.retire_writes r v s.hi s.lo s.free, by simp⟩

/-- What an instruction does that only writes HI and LO. -/
theorem State.writeHiLo_spec (hi lo : Dword) : ∃ t, s.writeHiLo hi lo = .next t ∧ WritesHiLo s t hi lo :=
  ⟨_, rfl, s.retire_writes 0 0 hi lo s.free, rfl⟩

/-- What an instruction does that only completes. -/
theorem State.retire_writesNothing : WritesNothing s s.retire := ⟨s.retire_writes 0 0 s.hi s.lo s.free, rfl⟩

theorem State.writeUnlessOverflow_true (r : Reg) (v : Dword) :
    s.writeUnlessOverflow true r v = .next (s.takeException .ov) := rfl

theorem State.writeUnlessOverflow_false (r : Reg) (v : Dword) : s.writeUnlessOverflow false r v = s.writeResult r v := rfl

theorem State.need64_of {s : State} (h : s.ops64 = true) (k : State → Out) : s.need64 k = k s := if_pos h

theorem State.need64_not {s : State} (h : s.ops64 = false) (k : State → Out) : s.need64 k = s.trap .ri := by
  simp [State.need64, h]

theorem State.needCop0_of {s : State} (h : s.cop0Usable = true) (k : State → Out) : s.needCop0 k = k s := if_pos h

theorem State.needCop0_not {s : State} (h : s.cop0Usable = false) (k : State → Out) : s.needCop0 k = s.trap (.cpu 0) := by
  simp [State.needCop0, h]

/-- A conditional trap. -/
theorem State.trapIf_spec (c : Bool) :
    (c = true → s.trapIf c = .next (s.takeException .tr)) ∧
      (c = false → ∃ t, s.trapIf c = .next t ∧ WritesNothing s t) := by
  cases c
  · exact ⟨fun h => absurd h (by decide), fun _ => ⟨_, rfl, s.retire_writesNothing⟩⟩
  · exact ⟨fun _ => rfl, fun h => absurd h (by decide)⟩

/-! ### Jumps -/

/-- Where a jump or branch goes. -/
def jumpEnd (s : State) (taken likely : Bool) (target : Dword) : Dword × Slot :=
  if taken then (s.pc + 4, .delay (some target)) else if likely then (s.pc + 8, .normal) else (s.pc + 4, .delay none)

theorem State.jump_slot {s : State} {x : Option Dword} (h : s.slot = .delay x) (taken likely : Bool) (target : Dword) :
    s.jump taken likely target = .fault .jumpInDelaySlot := by
  unfold State.jump; rw [h]

theorem State.jump_eq {s : State} (h : s.slot = .normal) (taken likely : Bool) (target : Dword) :
    s.jump taken likely target = .next { s.stepRandom with
      pc := (jumpEnd s taken likely target).1, slot := (jumpEnd s taken likely target).2 } := by
  unfold State.jump jumpEnd
  rw [h]
  cases taken
  · cases likely
    · rfl
    · simp only [if_true, Bool.false_eq_true, if_false]
      have : s.stepRandom.slot = .normal := h
      rw [State.stepRandom_pc]
      congr 1
      rw [← this]
  · rfl

/-- All that a jump or branch does outside a delay slot, after it has written its link register: `u` is `s` with that
register written. -/
theorem State.jump_spec {s : State} (h : s.slot = .normal) (r : Reg) (v : Dword) (taken likely : Bool) (target : Dword) :
    ∃ t, (s.setReg r v).jump taken likely target = .next t ∧
      (∀ q, t.getReg q = if q = 0 then 0 else if q = r then v else s.getReg q) ∧
      Branches s t (jumpEnd s taken likely target).1 (jumpEnd s taken likely target).2 := by
  have hs : (s.setReg r v).slot = .normal := by simp [h]
  have he : jumpEnd (s.setReg r v) taken likely target = jumpEnd s taken likely target := by
    unfold jumpEnd; simp
  refine ⟨_, State.jump_eq hs _ _ _, fun q => ?_, ?_⟩
  · rw [← State.getReg_setReg]; exact State.getReg_congr rfl q
  · rw [he]
    exact { pc := rfl, slot := rfl, cp0 := by simp [State.stepRandom], hi := by simp, lo := by simp, free := by simp,
            memory := fun a => by simp, rest := by unfold SameOutsideCore State.setReg; split <;> rfl }

/-! ### Taking an exception -/

variable (e : Exc)

theorem State.takeException_sameOutsideCore : SameOutsideCore s (s.takeException e) := rfl

/-- Exception entry writes no CP0 register but Status, Cause, EPC and the address registers. -/
theorem State.takeException_cp0_only : (s.takeException e).cp0 = { s.cp0 with
    status := (s.takeException e).cp0.status
    cause := (s.takeException e).cp0.cause
    epc := (s.takeException e).cp0.epc
    badVAddr := (s.takeException e).cp0.badVAddr
    context := (s.takeException e).cp0.context
    xcontext := (s.takeException e).cp0.xcontext
    entryHi := (s.takeException e).cp0.entryHi
    entryLo0 := (s.takeException e).cp0.entryLo0
    entryLo1 := (s.takeException e).cp0.entryLo1 } := by
  unfold State.takeException State.saveRestart Cp0.saveAddress
  cases e <;> cases s.exl <;> rfl

theorem State.takeException_status : (s.takeException e).cp0.status = s.cp0.status ||| 2 := by
  unfold State.takeException State.saveRestart Cp0.saveAddress
  cases e <;> cases s.exl <;> rfl

/-- After exception entry EXL is set. -/
@[simp] theorem State.takeException_exl : (s.takeException e).exl = true := by
  unfold State.exl
  rw [State.takeException_status]
  simp

/-- After exception entry the mode is Kernel. -/
@[simp] theorem State.takeException_mode : (s.takeException e).mode = .kernel := by
  unfold State.mode
  simp

end Sys2Proof.Machine
end

