-- ==== Sys2Proof/Laws/PerInstr.lean ====
section
/-! SUPPORT. Statements made for every instruction, one lemma per constructor. -/
namespace Sys2Proof.Laws

/-- The encoding of the instruction lies in its row of the opcode table: under the row's mask it is the row's match. -/
def OpcodeRow.Statement (i : Instr) : Prop := encode i &&& i.row.1 = i.row.2

theorem OpcodeRow.lb (rt base : Reg) (offset : Half) : OpcodeRow.Statement (.lb rt base offset) :=
  (encodeI_and_op _ _ _ _).trans rfl

theorem OpcodeRow.lbu (rt base : Reg) (offset : Half) : OpcodeRow.Statement (.lbu rt base offset) :=
  (encodeI_and_op _ _ _ _).trans rfl

theorem OpcodeRow.lh (rt base : Reg) (offset : Half) : OpcodeRow.Statement (.lh rt base offset) :=
  (encodeI_and_op _ _ _ _).trans rfl

theorem OpcodeRow.lhu (rt base : Reg) (offset : Half) : OpcodeRow.Statement (.lhu rt base offset) :=
  (encodeI_and_op _ _ _ _).trans rfl

theorem OpcodeRow.lw (rt base : Reg) (offset : Half) : OpcodeRow.Statement (.lw rt base offset) :=
  (encodeI_and_op _ _ _ _).trans rfl

theorem OpcodeRow.lwl (rt base : Reg) (offset : Half) : OpcodeRow.Statement (.lwl rt base offset) :=
  (encodeI_and_op _ _ _ _).trans rfl

theorem OpcodeRow.lwr (rt base : Reg) (offset : Half) : OpcodeRow.Statement (.lwr rt base offset) :=
  (encodeI_and_op _ _ _ _).trans rfl

theorem OpcodeRow.lwu (rt base : Reg) (offset : Half) : OpcodeRow.Statement (.lwu rt base offset) :=
  (encodeI_and_op _ _ _ _).trans rfl

theorem OpcodeRow.ld (rt base : Reg) (offset : Half) : OpcodeRow.Statement (.ld rt base offset) :=
  (encodeI_and_op _ _ _ _).trans rfl

theorem OpcodeRow.ldl (rt base : Reg) (offset : Half) : OpcodeRow.Statement (.ldl rt base offset) :=
  (encodeI_and_op _ _ _ _).trans rfl

theorem OpcodeRow.ldr (rt base : Reg) (offset : Half) : OpcodeRow.Statement (.ldr rt base offset) :=
  (encodeI_and_op _ _ _ _).trans rfl

theorem OpcodeRow.sb (rt base : Reg) (offset : Half) : OpcodeRow.Statement (.sb rt base offset) :=
  (encodeI_and_op _ _ _ _).trans rfl

theorem OpcodeRow.sh (rt base : Reg) (offset : Half) : OpcodeRow.Statement (.sh rt base offset) :=
  (encodeI_and_op _ _ _ _).trans rfl

theorem OpcodeRow.sw (rt base : Reg) (offset : Half) : OpcodeRow.Statement (.sw rt base offset) :=
  (encodeI_and_op _ _ _ _).trans rfl

theorem OpcodeRow.swl (rt base : Reg) (offset : Half) : OpcodeRow.Statement (.swl rt base offset) :=
  (encodeI_and_op _ _ _ _).trans rfl

theorem OpcodeRow.swr (rt base : Reg) (offset : Half) : OpcodeRow.Statement (.swr rt base offset) :=
  (encodeI_and_op _ _ _ _).trans rfl

theorem OpcodeRow.sd (rt base : Reg) (offset : Half) : OpcodeRow.Statement (.sd rt base offset) :=
  (encodeI_and_op _ _ _ _).trans rfl

theorem OpcodeRow.sdl (rt base : Reg) (offset : Half) : OpcodeRow.Statement (.sdl rt base offset) :=
  (encodeI_and_op _ _ _ _).trans rfl

theorem OpcodeRow.sdr (rt base : Reg) (offset : Half) : OpcodeRow.Statement (.sdr rt base offset) :=
  (encodeI_and_op _ _ _ _).trans rfl

theorem OpcodeRow.addi (rt rs : Reg) (imm : Half) : OpcodeRow.Statement (.addi rt rs imm) :=
  (encodeI_and_op _ _ _ _).trans rfl

theorem OpcodeRow.addiu (rt rs : Reg) (imm : Half) : OpcodeRow.Statement (.addiu rt rs imm) :=
  (encodeI_and_op _ _ _ _).trans rfl

theorem OpcodeRow.slti (rt rs : Reg) (imm : Half) : OpcodeRow.Statement (.slti rt rs imm) :=
  (encodeI_and_op _ _ _ _).trans rfl

theorem OpcodeRow.sltiu (rt rs : Reg) (imm : Half) : OpcodeRow.Statement (.sltiu rt rs imm) :=
  (encodeI_and_op _ _ _ _).trans rfl

theorem OpcodeRow.andi (rt rs : Reg) (imm : Half) : OpcodeRow.Statement (.andi rt rs imm) :=
  (encodeI_and_op _ _ _ _).trans rfl

theorem OpcodeRow.ori (rt rs : Reg) (imm : Half) : OpcodeRow.Statement (.ori rt rs imm) :=
  (encodeI_and_op _ _ _ _).trans rfl

theorem OpcodeRow.xori (rt rs : Reg) (imm : Half) : OpcodeRow.Statement (.xori rt rs imm) :=
  (encodeI_and_op _ _ _ _).trans rfl

theorem OpcodeRow.lui (rt : Reg) (imm : Half) : OpcodeRow.Statement (.lui rt imm) :=
  (encodeI_and_op _ _ _ _).trans rfl

theorem OpcodeRow.daddi (rt rs : Reg) (imm : Half) : OpcodeRow.Statement (.daddi rt rs imm) :=
  (encodeI_and_op _ _ _ _).trans rfl

theorem OpcodeRow.daddiu (rt rs : Reg) (imm : Half) : OpcodeRow.Statement (.daddiu rt rs imm) :=
  (encodeI_and_op _ _ _ _).trans rfl

theorem OpcodeRow.add (rd rs rt : Reg) : OpcodeRow.Statement (.add rd rs rt) :=
  (encodeR_and_op_funct _ _ _ _ _ _).trans rfl

theorem OpcodeRow.addu (rd rs rt : Reg) : OpcodeRow.Statement (.addu rd rs rt) :=
  (encodeR_and_op_funct _ _ _ _ _ _).trans rfl

theorem OpcodeRow.sub (rd rs rt : Reg) : OpcodeRow.Statement (.sub rd rs rt) :=
  (encodeR_and_op_funct _ _ _ _ _ _).trans rfl

theorem OpcodeRow.subu (rd rs rt : Reg) : OpcodeRow.Statement (.subu rd rs rt) :=
  (encodeR_and_op_funct _ _ _ _ _ _).trans rfl

theorem OpcodeRow.and (rd rs rt : Reg) : OpcodeRow.Statement (.and rd rs rt) :=
  (encodeR_and_op_funct _ _ _ _ _ _).trans rfl

theorem OpcodeRow.or (rd rs rt : Reg) : OpcodeRow.Statement (.or rd rs rt) :=
  (encodeR_and_op_funct _ _ _ _ _ _).trans rfl

theorem OpcodeRow.xor (rd rs rt : Reg) : OpcodeRow.Statement (.xor rd rs rt) :=
  (encodeR_and_op_funct _ _ _ _ _ _).trans rfl

theorem OpcodeRow.nor (rd rs rt : Reg) : OpcodeRow.Statement (.nor rd rs rt) :=
  (encodeR_and_op_funct _ _ _ _ _ _).trans rfl

theorem OpcodeRow.slt (rd rs rt : Reg) : OpcodeRow.Statement (.slt rd rs rt) :=
  (encodeR_and_op_funct _ _ _ _ _ _).trans rfl

theorem OpcodeRow.sltu (rd rs rt : Reg) : OpcodeRow.Statement (.sltu rd rs rt) :=
  (encodeR_and_op_funct _ _ _ _ _ _).trans rfl

theorem OpcodeRow.dadd (rd rs rt : Reg) : OpcodeRow.Statement (.dadd rd rs rt) :=
  (encodeR_and_op_funct _ _ _ _ _ _).trans rfl

theorem OpcodeRow.daddu (rd rs rt : Reg) : OpcodeRow.Statement (.daddu rd rs rt) :=
  (encodeR_and_op_funct _ _ _ _ _ _).trans rfl

theorem OpcodeRow.dsub (rd rs rt : Reg) : OpcodeRow.Statement (.dsub rd rs rt) :=
  (encodeR_and_op_funct _ _ _ _ _ _).trans rfl

theorem OpcodeRow.dsubu (rd rs rt : Reg) : OpcodeRow.Statement (.dsubu rd rs rt) :=
  (encodeR_and_op_funct _ _ _ _ _ _).trans rfl

theorem OpcodeRow.sll (rd rt : Reg) (sa : BitVec 5) : OpcodeRow.Statement (.sll rd rt sa) :=
  (encodeR_and_op_funct _ _ _ _ _ _).trans rfl

theorem OpcodeRow.srl (rd rt : Reg) (sa : BitVec 5) : OpcodeRow.Statement (.srl rd rt sa) :=
  (encodeR_and_op_funct _ _ _ _ _ _).trans rfl

theorem OpcodeRow.sra (rd rt : Reg) (sa : BitVec 5) : OpcodeRow.Statement (.sra rd rt sa) :=
  (encodeR_and_op_funct _ _ _ _ _ _).trans rfl

theorem OpcodeRow.sllv (rd rt rs : Reg) : OpcodeRow.Statement (.sllv rd rt rs) :=
  (encodeR_and_op_funct _ _ _ _ _ _).trans rfl

theorem OpcodeRow.srlv (rd rt rs : Reg) : OpcodeRow.Statement (.srlv rd rt rs) :=
  (encodeR_and_op_funct _ _ _ _ _ _).trans rfl

theorem OpcodeRow.srav (rd rt rs : Reg) : OpcodeRow.Statement (.srav rd rt rs) :=
  (encodeR_and_op_funct _ _ _ _ _ _).trans rfl

theorem OpcodeRow.dsll (rd rt : Reg) (sa : BitVec 5) : OpcodeRow.Statement (.dsll rd rt sa) :=
  (encodeR_and_op_funct _ _ _ _ _ _).trans rfl

theorem OpcodeRow.dsrl (rd rt : Reg) (sa : BitVec 5) : OpcodeRow.Statement (.dsrl rd rt sa) :=
  (encodeR_and_op_funct _ _ _ _ _ _).trans rfl

theorem OpcodeRow.dsra (rd rt : Reg) (sa : BitVec 5) : OpcodeRow.Statement (.dsra rd rt sa) :=
  (encodeR_and_op_funct _ _ _ _ _ _).trans rfl

theorem OpcodeRow.dsllv (rd rt rs : Reg) : OpcodeRow.Statement (.dsllv rd rt rs) :=
  (encodeR_and_op_funct _ _ _ _ _ _).trans rfl

theorem OpcodeRow.dsrlv (rd rt rs : Reg) : OpcodeRow.Statement (.dsrlv rd rt rs) :=
  (encodeR_and_op_funct _ _ _ _ _ _).trans rfl

theorem OpcodeRow.dsrav (rd rt rs : Reg) : OpcodeRow.Statement (.dsrav rd rt rs) :=
  (encodeR_and_op_funct _ _ _ _ _ _).trans rfl

theorem OpcodeRow.dsll32 (rd rt : Reg) (sa : BitVec 5) : OpcodeRow.Statement (.dsll32 rd rt sa) :=
  (encodeR_and_op_funct _ _ _ _ _ _).trans rfl

theorem OpcodeRow.dsrl32 (rd rt : Reg) (sa : BitVec 5) : OpcodeRow.Statement (.dsrl32 rd rt sa) :=
  (encodeR_and_op_funct _ _ _ _ _ _).trans rfl

theorem OpcodeRow.dsra32 (rd rt : Reg) (sa : BitVec 5) : OpcodeRow.Statement (.dsra32 rd rt sa) :=
  (encodeR_and_op_funct _ _ _ _ _ _).trans rfl

theorem OpcodeRow.mult (rs rt : Reg) : OpcodeRow.Statement (.mult rs rt) :=
  (encodeR_and_op_funct _ _ _ _ _ _).trans rfl

theorem OpcodeRow.multu (rs rt : Reg) : OpcodeRow.Statement (.multu rs rt) :=
  (encodeR_and_op_funct _ _ _ _ _ _).trans rfl

theorem OpcodeRow.div (rs rt : Reg) : OpcodeRow.Statement (.div rs rt) :=
  (encodeR_and_op_funct _ _ _ _ _ _).trans rfl

theorem OpcodeRow.divu (rs rt : Reg) : OpcodeRow.Statement (.divu rs rt) :=
  (encodeR_and_op_funct _ _ _ _ _ _).trans rfl

theorem OpcodeRow.dmult (rs rt : Reg) : OpcodeRow.Statement (.dmult rs rt) :=
  (encodeR_and_op_funct _ _ _ _ _ _).trans rfl

theorem OpcodeRow.dmultu (rs rt : Reg) : OpcodeRow.Statement (.dmultu rs rt) :=
  (encodeR_and_op_funct _ _ _ _ _ _).trans rfl

theorem OpcodeRow.ddiv (rs rt : Reg) : OpcodeRow.Statement (.ddiv rs rt) :=
  (encodeR_and_op_funct _ _ _ _ _ _).trans rfl

theorem OpcodeRow.ddivu (rs rt : Reg) : OpcodeRow.Statement (.ddivu rs rt) :=
  (encodeR_and_op_funct _ _ _ _ _ _).trans rfl

theorem OpcodeRow.mfhi (rd : Reg) : OpcodeRow.Statement (.mfhi rd) :=
  (encodeR_and_op_funct _ _ _ _ _ _).trans rfl

theorem OpcodeRow.mthi (rs : Reg) : OpcodeRow.Statement (.mthi rs) :=
  (encodeR_and_op_funct _ _ _ _ _ _).trans rfl

theorem OpcodeRow.mflo (rd : Reg) : OpcodeRow.Statement (.mflo rd) :=
  (encodeR_and_op_funct _ _ _ _ _ _).trans rfl

theorem OpcodeRow.mtlo (rs : Reg) : OpcodeRow.Statement (.mtlo rs) :=
  (encodeR_and_op_funct _ _ _ _ _ _).trans rfl

theorem OpcodeRow.macc (rd rs rt : Reg) : OpcodeRow.Statement (.macc rd rs rt) :=
  (encodeR_and_macc _ _ _ _ _ _).trans rfl

theorem OpcodeRow.maccu (rd rs rt : Reg) : OpcodeRow.Statement (.maccu rd rs rt) :=
  (encodeR_and_macc _ _ _ _ _ _).trans rfl

theorem OpcodeRow.macchi (rd rs rt : Reg) : OpcodeRow.Statement (.macchi rd rs rt) :=
  (encodeR_and_macc _ _ _ _ _ _).trans rfl

theorem OpcodeRow.macchiu (rd rs rt : Reg) : OpcodeRow.Statement (.macchiu rd rs rt) :=
  (encodeR_and_macc _ _ _ _ _ _).trans rfl

theorem OpcodeRow.maccs (rd rs rt : Reg) : OpcodeRow.Statement (.maccs rd rs rt) :=
  (encodeR_and_macc _ _ _ _ _ _).trans rfl

theorem OpcodeRow.maccus (rd rs rt : Reg) : OpcodeRow.Statement (.maccus rd rs rt) :=
  (encodeR_and_macc _ _ _ _ _ _).trans rfl

theorem OpcodeRow.macchis (rd rs rt : Reg) : OpcodeRow.Statement (.macchis rd rs rt) :=
  (encodeR_and_macc _ _ _ _ _ _).trans rfl

theorem OpcodeRow.macchius (rd rs rt : Reg) : OpcodeRow.Statement (.macchius rd rs rt) :=
  (encodeR_and_macc _ _ _ _ _ _).trans rfl

theorem OpcodeRow.dmacc (rd rs rt : Reg) : OpcodeRow.Statement (.dmacc rd rs rt) :=
  (encodeR_and_macc _ _ _ _ _ _).trans rfl

theorem OpcodeRow.dmaccu (rd rs rt : Reg) : OpcodeRow.Statement (.dmaccu rd rs rt) :=
  (encodeR_and_macc _ _ _ _ _ _).trans rfl

theorem OpcodeRow.dmacchi (rd rs rt : Reg) : OpcodeRow.Statement (.dmacchi rd rs rt) :=
  (encodeR_and_macc _ _ _ _ _ _).trans rfl

theorem OpcodeRow.dmacchiu (rd rs rt : Reg) : OpcodeRow.Statement (.dmacchiu rd rs rt) :=
  (encodeR_and_macc _ _ _ _ _ _).trans rfl

theorem OpcodeRow.dmaccs (rd rs rt : Reg) : OpcodeRow.Statement (.dmaccs rd rs rt) :=
  (encodeR_and_macc _ _ _ _ _ _).trans rfl

theorem OpcodeRow.dmaccus (rd rs rt : Reg) : OpcodeRow.Statement (.dmaccus rd rs rt) :=
  (encodeR_and_macc _ _ _ _ _ _).trans rfl

theorem OpcodeRow.dmacchis (rd rs rt : Reg) : OpcodeRow.Statement (.dmacchis rd rs rt) :=
  (encodeR_and_macc _ _ _ _ _ _).trans rfl

theorem OpcodeRow.dmacchius (rd rs rt : Reg) : OpcodeRow.Statement (.dmacchius rd rs rt) :=
  (encodeR_and_macc _ _ _ _ _ _).trans rfl

theorem OpcodeRow.j (target : BitVec 26) : OpcodeRow.Statement (.j target) :=
  (encodeJ_and_op _ _).trans rfl

theorem OpcodeRow.jal (target : BitVec 26) : OpcodeRow.Statement (.jal target) :=
  (encodeJ_and_op _ _).trans rfl

theorem OpcodeRow.jalx (target : BitVec 26) : OpcodeRow.Statement (.jalx target) :=
  (encodeJ_and_op _ _).trans rfl

theorem OpcodeRow.jr (rs : Reg) : OpcodeRow.Statement (.jr rs) :=
  (encodeR_and_op_funct _ _ _ _ _ _).trans rfl

theorem OpcodeRow.jalr (rd rs : Reg) : OpcodeRow.Statement (.jalr rd rs) :=
  (encodeR_and_op_funct _ _ _ _ _ _).trans rfl

theorem OpcodeRow.beq (rs rt : Reg) (offset : Half) : OpcodeRow.Statement (.beq rs rt offset) :=
  (encodeI_and_op _ _ _ _).trans rfl

theorem OpcodeRow.bne (rs rt : Reg) (offset : Half) : OpcodeRow.Statement (.bne rs rt offset) :=
  (encodeI_and_op _ _ _ _).trans rfl

theorem OpcodeRow.blez (rs : Reg) (offset : Half) : OpcodeRow.Statement (.blez rs offset) :=
  (encodeI_and_op _ _ _ _).trans rfl

theorem OpcodeRow.bgtz (rs : Reg) (offset : Half) : OpcodeRow.Statement (.bgtz rs offset) :=
  (encodeI_and_op _ _ _ _).trans rfl

theorem OpcodeRow.beql (rs rt : Reg) (offset : Half) : OpcodeRow.Statement (.beql rs rt offset) :=
  (encodeI_and_op _ _ _ _).trans rfl

theorem OpcodeRow.bnel (rs rt : Reg) (offset : Half) : OpcodeRow.Statement (.bnel rs rt offset) :=
  (encodeI_and_op _ _ _ _).trans rfl

theorem OpcodeRow.blezl (rs : Reg) (offset : Half) : OpcodeRow.Statement (.blezl rs offset) :=
  (encodeI_and_op _ _ _ _).trans rfl

theorem OpcodeRow.bgtzl (rs : Reg) (offset : Half) : OpcodeRow.Statement (.bgtzl rs offset) :=
  (encodeI_and_op _ _ _ _).trans rfl

theorem OpcodeRow.bltz (rs : Reg) (offset : Half) : OpcodeRow.Statement (.bltz rs offset) :=
  (encodeI_and_op_rt _ _ _ _).trans rfl

theorem OpcodeRow.bgez (rs : Reg) (offset : Half) : OpcodeRow.Statement (.bgez rs offset) :=
  (encodeI_and_op_rt _ _ _ _).trans rfl

theorem OpcodeRow.bltzl (rs : Reg) (offset : Half) : OpcodeRow.Statement (.bltzl rs offset) :=
  (encodeI_and_op_rt _ _ _ _).trans rfl

theorem OpcodeRow.bgezl (rs : Reg) (offset : Half) : OpcodeRow.Statement (.bgezl rs offset) :=
  (encodeI_and_op_rt _ _ _ _).trans rfl

theorem OpcodeRow.bltzal (rs : Reg) (offset : Half) : OpcodeRow.Statement (.bltzal rs offset) :=
  (encodeI_and_op_rt _ _ _ _).trans rfl

theorem OpcodeRow.bgezal (rs : Reg) (offset : Half) : OpcodeRow.Statement (.bgezal rs offset) :=
  (encodeI_and_op_rt _ _ _ _).trans rfl

theorem OpcodeRow.bltzall (rs : Reg) (offset : Half) : OpcodeRow.Statement (.bltzall rs offset) :=
  (encodeI_and_op_rt _ _ _ _).trans rfl

theorem OpcodeRow.bgezall (rs : Reg) (offset : Half) : OpcodeRow.Statement (.bgezall rs offset) :=
  (encodeI_and_op_rt _ _ _ _).trans rfl

theorem OpcodeRow.bc0f (offset : Half) : OpcodeRow.Statement (.bc0f offset) :=
  (encodeI_and_op_rs_rt _ _ _ _).trans rfl

theorem OpcodeRow.bc0t (offset : Half) : OpcodeRow.Statement (.bc0t offset) :=
  (encodeI_and_op_rs_rt _ _ _ _).trans rfl

theorem OpcodeRow.bc0fl (offset : Half) : OpcodeRow.Statement (.bc0fl offset) :=
  (encodeI_and_op_rs_rt _ _ _ _).trans rfl

theorem OpcodeRow.bc0tl (offset : Half) : OpcodeRow.Statement (.bc0tl offset) :=
  (encodeI_and_op_rs_rt _ _ _ _).trans rfl

theorem OpcodeRow.syscall (code : BitVec 20) : OpcodeRow.Statement (.syscall code) :=
  (encodeCode_and_op_funct _ _).trans rfl

theorem OpcodeRow.brk (code : BitVec 20) : OpcodeRow.Statement (.brk code) :=
  (encodeCode_and_op_funct _ _).trans rfl

theorem OpcodeRow.sync : OpcodeRow.Statement (.sync) :=
  (encodeR_and_op_funct _ _ _ _ _ _).trans rfl

theorem OpcodeRow.tge (rs rt : Reg) (code : BitVec 10) : OpcodeRow.Statement (.tge rs rt code) :=
  (encodeTrap_and_op_funct _ _ _ _).trans rfl

theorem OpcodeRow.tgeu (rs rt : Reg) (code : BitVec 10) : OpcodeRow.Statement (.tgeu rs rt code) :=
  (encodeTrap_and_op_funct _ _ _ _).trans rfl

theorem OpcodeRow.tlt (rs rt : Reg) (code : BitVec 10) : OpcodeRow.Statement (.tlt rs rt code) :=
  (encodeTrap_and_op_funct _ _ _ _).trans rfl

theorem OpcodeRow.tltu (rs rt : Reg) (code : BitVec 10) : OpcodeRow.Statement (.tltu rs rt code) :=
  (encodeTrap_and_op_funct _ _ _ _).trans rfl

theorem OpcodeRow.teq (rs rt : Reg) (code : BitVec 10) : OpcodeRow.Statement (.teq rs rt code) :=
  (encodeTrap_and_op_funct _ _ _ _).trans rfl

theorem OpcodeRow.tne (rs rt : Reg) (code : BitVec 10) : OpcodeRow.Statement (.tne rs rt code) :=
  (encodeTrap_and_op_funct _ _ _ _).trans rfl

theorem OpcodeRow.tgei (rs : Reg) (imm : Half) : OpcodeRow.Statement (.tgei rs imm) :=
  (encodeI_and_op_rt _ _ _ _).trans rfl

theorem OpcodeRow.tgeiu (rs : Reg) (imm : Half) : OpcodeRow.Statement (.tgeiu rs imm) :=
  (encodeI_and_op_rt _ _ _ _).trans rfl

theorem OpcodeRow.tlti (rs : Reg) (imm : Half) : OpcodeRow.Statement (.tlti rs imm) :=
  (encodeI_and_op_rt _ _ _ _).trans rfl

theorem OpcodeRow.tltiu (rs : Reg) (imm : Half) : OpcodeRow.Statement (.tltiu rs imm) :=
  (encodeI_and_op_rt _ _ _ _).trans rfl

theorem OpcodeRow.teqi (rs : Reg) (imm : Half) : OpcodeRow.Statement (.teqi rs imm) :=
  (encodeI_and_op_rt _ _ _ _).trans rfl

theorem OpcodeRow.tnei (rs : Reg) (imm : Half) : OpcodeRow.Statement (.tnei rs imm) :=
  (encodeI_and_op_rt _ _ _ _).trans rfl

theorem OpcodeRow.mfc0 (rt rd : Reg) : OpcodeRow.Statement (.mfc0 rt rd) :=
  (encodeR_and_op_rs _ _ _ _ _ _).trans rfl

theorem OpcodeRow.mtc0 (rt rd : Reg) : OpcodeRow.Statement (.mtc0 rt rd) :=
  (encodeR_and_op_rs _ _ _ _ _ _).trans rfl

theorem OpcodeRow.dmfc0 (rt rd : Reg) : OpcodeRow.Statement (.dmfc0 rt rd) :=
  (encodeR_and_op_rs _ _ _ _ _ _).trans rfl

theorem OpcodeRow.dmtc0 (rt rd : Reg) : OpcodeRow.Statement (.dmtc0 rt rd) :=
  (encodeR_and_op_rs _ _ _ _ _ _).trans rfl

theorem OpcodeRow.tlbr : OpcodeRow.Statement (.tlbr) :=
  (encodeR_and_co _ _ _ _ _ _).trans rfl

theorem OpcodeRow.tlbwi : OpcodeRow.Statement (.tlbwi) :=
  (encodeR_and_co _ _ _ _ _ _).trans rfl

theorem OpcodeRow.tlbwr : OpcodeRow.Statement (.tlbwr) :=
  (encodeR_and_co _ _ _ _ _ _).trans rfl

theorem OpcodeRow.tlbp : OpcodeRow.Statement (.tlbp) :=
  (encodeR_and_co _ _ _ _ _ _).trans rfl

theorem OpcodeRow.eret : OpcodeRow.Statement (.eret) :=
  (encodeR_and_co _ _ _ _ _ _).trans rfl

theorem OpcodeRow.standby : OpcodeRow.Statement (.standby) :=
  (encodeR_and_co _ _ _ _ _ _).trans rfl

theorem OpcodeRow.suspend : OpcodeRow.Statement (.suspend) :=
  (encodeR_and_co _ _ _ _ _ _).trans rfl

theorem OpcodeRow.hibernate : OpcodeRow.Statement (.hibernate) :=
  (encodeR_and_co _ _ _ _ _ _).trans rfl

theorem OpcodeRow.cache (op : BitVec 5) (base : Reg) (offset : Half) : OpcodeRow.Statement (.cache op base offset) :=
  (encodeI_and_op _ _ _ _).trans rfl

theorem OpcodeRow.ll (rt base : Reg) (offset : Half) : OpcodeRow.Statement (.ll rt base offset) :=
  (encodeI_and_op _ _ _ _).trans rfl

theorem OpcodeRow.lld (rt base : Reg) (offset : Half) : OpcodeRow.Statement (.lld rt base offset) :=
  (encodeI_and_op _ _ _ _).trans rfl

theorem OpcodeRow.sc (rt base : Reg) (offset : Half) : OpcodeRow.Statement (.sc rt base offset) :=
  (encodeI_and_op _ _ _ _).trans rfl

theorem OpcodeRow.scd (rt base : Reg) (offset : Half) : OpcodeRow.Statement (.scd rt base offset) :=
  (encodeI_and_op _ _ _ _).trans rfl

theorem OpcodeRow.cop1 (rest : BitVec 26) : OpcodeRow.Statement (.cop1 rest) :=
  (encodeJ_and_op _ _).trans rfl

theorem OpcodeRow.lwc1 (rt base : Reg) (offset : Half) : OpcodeRow.Statement (.lwc1 rt base offset) :=
  (encodeI_and_op _ _ _ _).trans rfl

theorem OpcodeRow.ldc1 (rt base : Reg) (offset : Half) : OpcodeRow.Statement (.ldc1 rt base offset) :=
  (encodeI_and_op _ _ _ _).trans rfl

theorem OpcodeRow.swc1 (rt base : Reg) (offset : Half) : OpcodeRow.Statement (.swc1 rt base offset) :=
  (encodeI_and_op _ _ _ _).trans rfl

theorem OpcodeRow.sdc1 (rt base : Reg) (offset : Half) : OpcodeRow.Statement (.sdc1 rt base offset) :=
  (encodeI_and_op _ _ _ _).trans rfl

theorem OpcodeRow.cop2 (rest : BitVec 26) : OpcodeRow.Statement (.cop2 rest) :=
  (encodeJ_and_op _ _).trans rfl

theorem OpcodeRow.lwc2 (rt base : Reg) (offset : Half) : OpcodeRow.Statement (.lwc2 rt base offset) :=
  (encodeI_and_op _ _ _ _).trans rfl

theorem OpcodeRow.ldc2 (rt base : Reg) (offset : Half) : OpcodeRow.Statement (.ldc2 rt base offset) :=
  (encodeI_and_op _ _ _ _).trans rfl

theorem OpcodeRow.swc2 (rt base : Reg) (offset : Half) : OpcodeRow.Statement (.swc2 rt base offset) :=
  (encodeI_and_op _ _ _ _).trans rfl

theorem OpcodeRow.sdc2 (rt base : Reg) (offset : Half) : OpcodeRow.Statement (.sdc2 rt base offset) :=
  (encodeI_and_op _ _ _ _).trans rfl

end Sys2Proof.Laws
end

