-- ==== Sys2Proof/Laws/Posted.lean ====
section
/-! SUPPORT. The posted writes (R162, R163, R515): they land in order, and what bus masters read before and after. -/
namespace Sys2Proof.Machine

variable (s : State)

/-! ### Landing takes writes off the command buffer and puts none there -/

@[simp] theorem State.capture_posted : s.capture.posted = s.posted := by simp [State.capture]

@[simp] theorem State.warmReset_posted (b : Block) : (s.warmReset b).posted = s.posted := by cases b <;> rfl

theorem State.writeWrcr_posted (be : Lanes) (v : Word) : (s.writeWrcr be v).posted = s.posted := by
  have go (c : Bool) (t : State) (b : Block) : (if c then t.warmReset b else t).posted = t.posted := by
    split
    · exact t.warmReset_posted b
    · rfl
  simp only [State.writeWrcr, go]

theorem deviceWrite_posted {σ : Type} (put : State → σ → State) (r : DevReply σ) (h : (put s r.dev).posted = s.posted) :
    (deviceWrite put r s).posted = s.posted := by
  unfold deviceWrite; split <;> first | exact h | rfl

theorem State.writeSyscon_posted (off : Nat) (be : Lanes) (v : Word) : (s.writeSyscon off be v).posted = s.posted := by
  unfold State.writeSyscon
  repeat' split
  all_goals first | rfl | exact deviceWrite_posted s _ _ rfl | exact s.writeWrcr_posted be v

theorem State.writeBlock_posted (b : Block) (off : Nat) (be : Lanes) (v : Word) :
    (s.writeBlock b off be v).posted = s.posted := by
  unfold State.writeBlock
  split
  · rfl
  · cases b <;> first | exact deviceWrite_posted s _ _ rfl | rfl

theorem registerWrite_posted (a n : Nat) (reserved : Nat → Bool) {word : State} (h : word.posted = s.posted) :
    (registerWrite a n s reserved word).posted = s.posted := by
  unfold registerWrite; split
  · exact h
  · rfl

theorem State.writeWindow_posted (a n v : Nat) : (s.writeWindow a n v).posted = s.posted := by
  unfold State.writeWindow; split <;> rfl

/-- A write that leaves the command buffer posts no other. -/
@[simp] theorem State.land_posted (w : PostedWrite) : (s.land w).posted = s.posted := by
  cases w with
  | memory r => rfl
  | single pa n v =>
    change (State.landSingle _ pa n v).posted = _
    unfold State.landSingle
    dsimp only
    split <;> try rfl
    · unfold State.writeRom; split <;> split <;> rfl
    · exact registerWrite_posted _ _ _ _ (State.writeSyscon_posted _ _ _ _)
    · exact registerWrite_posted _ _ _ _ (State.writeBlock_posted _ _ _ _ _)
    · exact State.writeWindow_posted _ _ _ _
  | burst pa v =>
    change (State.landBurst _ pa v).posted = _
    unfold State.landBurst
    dsimp only
    split <;> first | exact State.writeWindow_posted _ _ _ _ | rfl

/-- The first `n` posted writes leave the command buffer. -/
@[simp] theorem State.landWrites_posted (n : Nat) : (s.landWrites n).posted = s.posted.drop n := by
  have h (ws : List PostedWrite) : ∀ (n : Nat) (s : State), s.posted = ws → (State.landFirst ws n s).posted = ws.drop n := by
    induction ws with
    | nil => intro n s h; simpa [State.landFirst] using h
    | cons w ws ih =>
      intro n s h
      cases n with
      | zero => simpa [State.landFirst] using h
      | succ n => simpa [State.landFirst] using ih n (State.capture (State.land { s with posted := ws } w)) (by simp)
  exact h _ n s rfl

/-- What an idle SysAD bus leaves posted: the four writes of the command buffer. -/
@[simp] theorem State.awaitSysAd_posted : s.awaitSysAd.posted = s.posted.drop (s.posted.length - 4) := s.landWrites_posted _

/-- Writes land in order, however many at a time (R163 1, R515). -/
theorem State.landWrites_landWrites (m n : Nat) : (s.landWrites m).landWrites n = s.landWrites (m + n) := by
  have h (ws : List PostedWrite) : ∀ (m : Nat) (s : State), s.posted = ws →
      (State.landFirst ws m s).landWrites n = State.landFirst ws (m + n) s := by
    induction ws with
    | nil => intro m s h; simp [State.landFirst, State.landWrites, h]
    | cons w ws ih =>
      intro m s h
      cases m with
      | zero => simp [State.landFirst, State.landWrites, h]
      | succ m =>
        rw [State.landFirst, if_neg (by omega), State.landFirst, if_neg (by omega), ih _ _ (by simp)]
        simp only [show m + 1 - 1 + n = m + 1 + n - 1 by omega]
  exact h _ m s rfl

/-! ### What bus masters read -/

theorem pendingByte_append (a : Nat) (l m : List (List Host.Cell)) :
    pendingByte a (l ++ m) = (pendingByte a l).or (pendingByte a m) := by
  induction l with
  | nil => rfl
  | cons x l ih => rw [List.cons_append, pendingByte, pendingByte]; split <;> simp_all

theorem pendingByte_nil (a : Nat) {l : List (List Host.Cell)} (h : ∀ x ∈ l, x = []) : pendingByte a l = none := by
  induction l with
  | nil => rfl
  | cons x l ih => simp_all [pendingByte]

/-- Behind the writes that a read of memory waits for, none is a write of memory. -/
theorem landCount_memory (ws : List PostedWrite) : ∀ w ∈ ws.drop (landCount .memory ws), w.replaced = [] := by
  induction ws with
  | nil => simp
  | cons w ws ih =>
    intro x hx
    by_cases h : landCount .memory ws = 0
    · by_cases hw : w.side = .memory
      · rw [h] at ih; simp [landCount, h, hw] at hx; exact ih x hx
      · rw [h] at ih; simp [landCount, h, hw] at hx
        rcases hx with rfl | hx
        · cases x with
          | memory r => exact absurd rfl hw
          | single pa n v => rfl
          | burst pa v => rfl
        · exact ih x hx
    · simp [landCount, h] at hx; exact ih x hx

/-- Once a read of memory has waited, bus masters read what the core reads (R163 1). -/
theorem State.await_landedByte (a : Nat) : (s.await .memory).landedByte a = s.mem.byte a := by
  rw [State.landedByte, pendingByte_nil, (s.lands_await .memory).mem]
  · rfl
  · intro x hx
    simp only [State.await, if_true, State.landWrites_posted, List.mem_cons, List.mem_map] at hx
    rcases hx with rfl | ⟨w, hw, rfl⟩
    · rfl
    · exact landCount_memory s.posted w hw

theorem mem_of_lookup {l : List Host.Cell} {a : Nat} {b : Byte} (h : l.lookup a = some b) : (a, b) ∈ l := by
  induction l with
  | nil => simp at h
  | cons c l ih =>
    rw [List.lookup_cons] at h
    split at h
    · rename_i hc
      rw [beq_iff_eq] at hc
      rw [hc, ← Option.some.inj h]
      exact List.mem_cons_self
    · exact List.mem_cons_of_mem _ (ih h)

/-- Bus masters do not see a write that has just been posted (R162; DESIGN CHOICE, assumption log 66). -/
theorem State.postMemory_landedByte (a n v c : Nat) : (s.postMemory a n v).landedByte c = s.room.landedByte c := by
  simp only [State.landedByte, State.postMemory, State.post, List.map_append, ← List.cons_append, pendingByte_append,
    s.lands_room.mem]
  cases pendingByte c _ with
  | some b => rfl
  | none =>
    simp only [Option.none_or, List.map_cons, List.map_nil, pendingByte, PostedWrite.replaced, Option.getD_none]
    cases h : (s.mem.cells a n).lookup c with
    | some b =>
      have := mem_of_lookup h
      simp only [Memory.cells, List.mem_map, Prod.mk.injEq] at this
      obtain ⟨i, -, rfl, rfl⟩ := this
      rfl
    | none =>
      refine Memory.byte_write_outside _ _ _ _ ?_
      by_contra hc
      rw [List.lookup_eq_none_iff] at h
      have hm : (c, s.mem.byte c) ∈ s.mem.cells a n := by
        simp only [Memory.cells, List.mem_map, List.mem_range]
        exact ⟨c - a, by omega, by rw [show a + (c - a) = c by omega]⟩
      simpa using h _ hm

end Sys2Proof.Machine
end

