-- ==== Sys2Proof/Tests/Slice0.lean ====
section
/-! SUPPORT. Tests: the checks of WellFormed, words written out from the encodings of the spec, the vectors of
spec/95_test_vectors.md, and for every obligation with hypotheses a state that meets them. -/
namespace Sys2Proof.Tests
open Sys2Proof.Machine

-- Each `decide +kernel` waits for the theorems before it: one after the other they need fewer threads.
set_option Elab.async false

/-! ### Helpers -/

/-- The word decodes to the instruction. -/
def decodes (c : Word × Instr) : Bool :=
  match decode c.1 with
  | .ok i => i == c.2
  | .error _ => false

/-- The outcome is a next state with the property. -/
def nextIs (o : Out) (p : State → Bool) : Bool :=
  match o with
  | .next t => p t
  | _ => false

/-- Kernel mode with Status = 0, at an address of kseg0 (the start of the vectors of §2.9). -/
def base : State := { State.reset with pc := 0xFFFF_FFFF_8000_1000, cp0 := { State.reset.cp0 with status := 0 } }

/-- A state with some general registers set. -/
def withRegs (l : List (Reg × Dword)) (s : State) : State := l.foldl (fun s c => s.setReg c.1 c.2) s

/-- A state with HI and LO set. -/
def withHiLo (hi lo : Dword) (s : State) : State := { s with hi := hi, lo := lo }

/-- A state with Status set. -/
def withStatus (v : Word) (s : State) : State := { s with cp0 := { s.cp0 with status := v } }

/-- The memory of the load and store vectors, 16 bytes from physical 2000H on. -/
def vectorMemory : Memory := Memory.write [] 0x2000 16 0xFFEEDDCC_BBAA9988_F7665584_33221100

/-- Its state: r4 reaches the bytes through kseg1, uncached; r8 = 0102_0304_A1B2_C3D4H. -/
def mem : State := withRegs [(4, 0xFFFF_FFFF_A000_2000), (8, 0x0102_0304_A1B2_C3D4)] { base with mem := vectorMemory }

/-- The same through kseg0, cached. -/
def cachedMem : State := mem.setReg 4 0xFFFF_FFFF_8000_2000

/-- Run an instruction word and look at the next state. -/
def runs (s : State) (w : Word) (p : State → Bool) : Bool := nextIs (s.runWord w) p

/-- The word leaves `v` in general register `r`. -/
def gives (s : State) (w : Word) (r : Reg) (v : Dword) : Bool := runs s w fun t => t.getReg r == v

/-- The word raises the exception, and does nothing else. -/
abbrev Raises (s : State) (w : Word) (e : Exc) : Prop := s.runWord w = .next (s.takeException e)

/-- The bytes of memory from `a` on. -/
def bytesAt (t : State) (a n : Nat) : Nat := t.mem.read a n

/-! ### WellFormed refuses -/

/-- JALR with rd = rs (R373). -/
theorem test_wf_jalr : (Instr.jalr 4 4).wf = false ∧ (Instr.jalr 31 4).wf = true := by decide
/-- BLTZAL on r31 (R363). -/
theorem test_wf_bltzal : (Instr.bltzal 31 2).wf = false ∧ (Instr.bltzal 4 2).wf = true := by decide
/-- BGEZAL on r31 (R363). -/
theorem test_wf_bgezal : (Instr.bgezal 31 2).wf = false ∧ (Instr.bgezal 0 2).wf = true := by decide
/-- BLTZALL on r31 (R363). -/
theorem test_wf_bltzall : (Instr.bltzall 31 2).wf = false ∧ (Instr.bltzall 4 2).wf = true := by decide
/-- BGEZALL on r31 (R363). -/
theorem test_wf_bgezall : (Instr.bgezall 31 2).wf = false ∧ (Instr.bgezall 4 2).wf = true := by decide
/-- CACHE operations 2 and 31 are not in the table of R441. -/
theorem test_wf_cache :
    (Instr.cache 2 4 0).wf = false ∧ (Instr.cache 31 4 0).wf = false ∧ (Instr.cache 21 4 0).wf = true := by
  decide

/-! ### Decoding: one word for every row of the opcode table, written from the fixed fields that spec/30_encoding.md
gives the row (R184–R191), with rs = base = 4, rt = 5, rd = 8, sa = 9 and a high bit in every immediate -/

theorem test_decode_loads_and_stores : ([
    (0x8085_8004, .lb 5 4 0x8004), (0x9085_8004, .lbu 5 4 0x8004), (0x8485_8004, .lh 5 4 0x8004),
    (0x9485_8004, .lhu 5 4 0x8004), (0x8C85_8004, .lw 5 4 0x8004), (0x8885_8004, .lwl 5 4 0x8004),
    (0x9885_8004, .lwr 5 4 0x8004), (0x9C85_8004, .lwu 5 4 0x8004), (0xDC85_8004, .ld 5 4 0x8004),
    (0x6885_8004, .ldl 5 4 0x8004), (0x6C85_8004, .ldr 5 4 0x8004), (0xA085_8004, .sb 5 4 0x8004),
    (0xA485_8004, .sh 5 4 0x8004), (0xAC85_8004, .sw 5 4 0x8004), (0xA885_8004, .swl 5 4 0x8004),
    (0xB885_8004, .swr 5 4 0x8004), (0xFC85_8004, .sd 5 4 0x8004), (0xB085_8004, .sdl 5 4 0x8004),
    (0xB485_8004, .sdr 5 4 0x8004)] :
    List (Word × Instr)).all decodes = true := by
  decide +kernel

theorem test_decode_unimplemented : ([
    (0x7523_4567, .jalx 0x1234567), (0xC085_8004, .ll 5 4 0x8004), (0xD085_8004, .lld 5 4 0x8004),
    (0xE085_8004, .sc 5 4 0x8004), (0xF085_8004, .scd 5 4 0x8004), (0x4523_4567, .cop1 0x1234567),
    (0xC485_8004, .lwc1 5 4 0x8004), (0xD485_8004, .ldc1 5 4 0x8004), (0xE485_8004, .swc1 5 4 0x8004),
    (0xF485_8004, .sdc1 5 4 0x8004), (0x4923_4567, .cop2 0x1234567), (0xC885_8004, .lwc2 5 4 0x8004),
    (0xD885_8004, .ldc2 5 4 0x8004), (0xE885_8004, .swc2 5 4 0x8004), (0xF885_8004, .sdc2 5 4 0x8004)] :
    List (Word × Instr)).all decodes = true := by
  decide +kernel

theorem test_decode_immediate : ([
    (0x2085_8004, .addi 5 4 0x8004), (0x2485_8004, .addiu 5 4 0x8004), (0x2885_8004, .slti 5 4 0x8004),
    (0x2C85_8004, .sltiu 5 4 0x8004), (0x3085_8004, .andi 5 4 0x8004), (0x3485_8004, .ori 5 4 0x8004),
    (0x3885_8004, .xori 5 4 0x8004), (0x3C05_8004, .lui 5 0x8004), (0x6085_8004, .daddi 5 4 0x8004),
    (0x6485_8004, .daddiu 5 4 0x8004)] :
    List (Word × Instr)).all decodes = true := by
  decide +kernel

theorem test_decode_alu : ([
    (0x0085_4020, .add 8 4 5), (0x0085_4021, .addu 8 4 5), (0x0085_4022, .sub 8 4 5), (0x0085_4023, .subu 8 4 5),
    (0x0085_4024, .and 8 4 5), (0x0085_4025, .or 8 4 5), (0x0085_4026, .xor 8 4 5), (0x0085_4027, .nor 8 4 5),
    (0x0085_402A, .slt 8 4 5), (0x0085_402B, .sltu 8 4 5), (0x0085_402C, .dadd 8 4 5), (0x0085_402D, .daddu 8 4 5),
    (0x0085_402E, .dsub 8 4 5), (0x0085_402F, .dsubu 8 4 5)] :
    List (Word × Instr)).all decodes = true := by
  decide +kernel

theorem test_decode_shifts : ([
    (0x0005_4240, .sll 8 5 9), (0x0005_4242, .srl 8 5 9), (0x0005_4243, .sra 8 5 9), (0x0085_4004, .sllv 8 5 4),
    (0x0085_4006, .srlv 8 5 4), (0x0085_4007, .srav 8 5 4), (0x0005_4278, .dsll 8 5 9), (0x0005_427A, .dsrl 8 5 9),
    (0x0005_427B, .dsra 8 5 9), (0x0085_4014, .dsllv 8 5 4), (0x0085_4016, .dsrlv 8 5 4),
    (0x0085_4017, .dsrav 8 5 4), (0x0005_427C, .dsll32 8 5 9), (0x0005_427E, .dsrl32 8 5 9),
    (0x0005_427F, .dsra32 8 5 9)] :
    List (Word × Instr)).all decodes = true := by
  decide +kernel

theorem test_decode_muldiv : ([
    (0x0085_0018, .mult 4 5), (0x0085_0019, .multu 4 5), (0x0085_001A, .div 4 5), (0x0085_001B, .divu 4 5),
    (0x0085_001C, .dmult 4 5), (0x0085_001D, .dmultu 4 5), (0x0085_001E, .ddiv 4 5), (0x0085_001F, .ddivu 4 5),
    (0x4010, .mfhi 8), (0x0080_0011, .mthi 4), (0x4012, .mflo 8), (0x0080_0013, .mtlo 4)] :
    List (Word × Instr)).all decodes = true := by
  decide +kernel

theorem test_decode_macc : ([
    (0x0085_4028, .macc 8 4 5), (0x0085_4068, .maccu 8 4 5), (0x0085_4228, .macchi 8 4 5),
    (0x0085_4268, .macchiu 8 4 5), (0x0085_4428, .maccs 8 4 5), (0x0085_4468, .maccus 8 4 5),
    (0x0085_4628, .macchis 8 4 5), (0x0085_4668, .macchius 8 4 5), (0x0085_4029, .dmacc 8 4 5),
    (0x0085_4069, .dmaccu 8 4 5), (0x0085_4229, .dmacchi 8 4 5), (0x0085_4269, .dmacchiu 8 4 5),
    (0x0085_4429, .dmaccs 8 4 5), (0x0085_4469, .dmaccus 8 4 5), (0x0085_4629, .dmacchis 8 4 5),
    (0x0085_4669, .dmacchius 8 4 5)] :
    List (Word × Instr)).all decodes = true := by
  decide +kernel

theorem test_decode_jumps : ([
    (0x0923_4567, .j 0x1234567), (0x0D23_4567, .jal 0x1234567), (0x0080_0008, .jr 4), (0x0080_4009, .jalr 8 4)] :
    List (Word × Instr)).all decodes = true := by
  decide +kernel

theorem test_decode_branches : ([
    (0x1085_8004, .beq 4 5 0x8004), (0x1485_8004, .bne 4 5 0x8004), (0x1880_8004, .blez 4 0x8004),
    (0x1C80_8004, .bgtz 4 0x8004), (0x5085_8004, .beql 4 5 0x8004), (0x5485_8004, .bnel 4 5 0x8004),
    (0x5880_8004, .blezl 4 0x8004), (0x5C80_8004, .bgtzl 4 0x8004), (0x0480_8004, .bltz 4 0x8004),
    (0x0481_8004, .bgez 4 0x8004), (0x0482_8004, .bltzl 4 0x8004), (0x0483_8004, .bgezl 4 0x8004),
    (0x0490_8004, .bltzal 4 0x8004), (0x0491_8004, .bgezal 4 0x8004), (0x0492_8004, .bltzall 4 0x8004),
    (0x0493_8004, .bgezall 4 0x8004), (0x4100_8004, .bc0f 0x8004), (0x4101_8004, .bc0t 0x8004),
    (0x4102_8004, .bc0fl 0x8004), (0x4103_8004, .bc0tl 0x8004)] :
    List (Word × Instr)).all decodes = true := by
  decide +kernel

theorem test_decode_traps : ([
    (0x026A_F34C, .syscall 0x9ABCD), (0x026A_F34D, .brk 0x9ABCD), (0x000F, .sync),
    (0x0085_B370, .tge 4 5 0x2CD), (0x0085_B371, .tgeu 4 5 0x2CD), (0x0085_B372, .tlt 4 5 0x2CD),
    (0x0085_B373, .tltu 4 5 0x2CD), (0x0085_B374, .teq 4 5 0x2CD), (0x0085_B376, .tne 4 5 0x2CD),
    (0x0488_8004, .tgei 4 0x8004), (0x0489_8004, .tgeiu 4 0x8004), (0x048A_8004, .tlti 4 0x8004),
    (0x048B_8004, .tltiu 4 0x8004), (0x048C_8004, .teqi 4 0x8004), (0x048E_8004, .tnei 4 0x8004)] :
    List (Word × Instr)).all decodes = true := by
  decide +kernel

theorem test_decode_cp0 : ([
    (0x4005_4000, .mfc0 5 8), (0x4085_4000, .mtc0 5 8), (0x4025_4000, .dmfc0 5 8), (0x40A5_4000, .dmtc0 5 8),
    (0x4200_0001, .tlbr), (0x4200_0002, .tlbwi), (0x4200_0006, .tlbwr), (0x4200_0008, .tlbp), (0x4200_0018, .eret),
    (0x4200_0021, .standby), (0x4200_0022, .suspend), (0x4200_0023, .hibernate), (0xBC95_8004, .cache 21 4 0x8004)] :
    List (Word × Instr)).all decodes = true := by
  decide +kernel

/-- Words of R192 and undefined cells: an unused opcode, an unused SPECIAL function, and an unused function inside COP0. -/
theorem test_decode_examples :
    ([(0x0000, .sll 0 0 0), (0x03E0_0008, .jr 31), (0x8C88_0004, .lw 8 4 4), (0x4200_0018, .eret)] :
    List (Word × Instr)).all decodes = true := by
  decide +kernel
theorem test_decode_reserved : (decode 0x7000_0000).toOption = none ∧ (decode 0x0001).toOption = none ∧
    (decode 0x4200_003F).toOption = none ∧ decodeTableWord 32 0x7000_0000 = none := by
  decide +kernel
theorem test_decodeTableWord : decodeTableWord 32 0x8C88_0004 = some (.lw 8 4 4) := by decide +kernel

/-! ### The vectors of spec/95_test_vectors.md, run through the decoder -/

theorem test_add_1 :
    Raises (withRegs [(4, 0x7FFF_FFFF), (5, 0x0001)] base) 0x0085_1020 .ov := rfl
theorem test_addu_1 :
    gives (withRegs [(4, 0x7FFF_FFFF), (5, 0x0001)] base) 0x0085_1021 2 0xFFFF_FFFF_8000_0000 = true := by
  decide +kernel
theorem test_add_2 :
    Raises (withRegs [(4, 0xFFFF_FFFF_8000_0000), (5, 0xFFFF_FFFF_FFFF_FFFF)] base) 0x0085_1020 .ov := rfl
theorem test_sub_1 :
    Raises (withRegs [(4, 0xFFFF_FFFF_8000_0000), (5, 0x0001)] base) 0x0085_1022 .ov := rfl
theorem test_subu_1 :
    gives (withRegs [(4, 0x0000), (5, 0x0001)] base) 0x0085_1023 2 0xFFFF_FFFF_FFFF_FFFF = true := by
  decide +kernel
theorem test_addi_1 : Raises (withRegs [(4, 0xFFFF_FFFF_8000_0000)] base) 0x2082_FFFF .ov := rfl
theorem test_addiu_1 :
    gives (withRegs [(4, 0xFFFF_FFFF_8000_0000)] base) 0x2482_FFFF 2 0x7FFF_FFFF = true := by decide +kernel
theorem test_addiu_2 : gives base 0x2402_8000 2 0xFFFF_FFFF_FFFF_8000 = true := by decide +kernel
theorem test_slti_1 :
    gives (withRegs [(4, 0xFFFF_FFFF_FFFF_FFFE)] base) 0x2882_FFFF 2 0x0001 = true := by decide +kernel
theorem test_sltiu_1 :
    gives (withRegs [(4, 0x0005)] base) 0x2C82_FFFF 2 0x0001 = true := by decide +kernel
theorem test_sltiu_2 :
    gives (withRegs [(4, 0x0000)] base) 0x2C82_0001 2 0x0001 = true := by decide +kernel
theorem test_andi_1 :
    gives (withRegs [(4, 0xFFFF_FFFF_FFFF_FFFF)] base) 0x3082_8001 2 0x8001 = true := by decide +kernel
theorem test_ori_1 :
    gives (withRegs [(4, 0x1234_0000)] base) 0x3482_8001 2 0x1234_8001 = true := by decide +kernel
theorem test_xori_1 :
    gives (withRegs [(4, 0xFFFF_FFFF_FFFF_FFFF)] base) 0x3882_FFFF 2 0xFFFF_FFFF_FFFF_0000 = true := by decide +kernel
theorem test_lui_1 : gives base 0x3C02_8001 2 0xFFFF_FFFF_8001_0000 = true := by decide +kernel
theorem test_lui_2 : gives base 0x3C02_7FFF 2 0x7FFF_0000 = true := by decide +kernel
theorem test_nor_1 :
    gives (withRegs [(4, 0x0F0F_0F0F)] base) 0x0080_1027 2 0xFFFF_FFFF_F0F0_F0F0 = true := by decide +kernel
theorem test_and_1 :
    gives (withRegs [(4, 0xFFFF_0000_FFFF_0000), (5, 0x0FF0_0FF0_0FF0_0FF0)] base)
      0x0085_1024 2 0x0FF0_0000_0FF0_0000 = true := by
  decide +kernel
theorem test_slt_1 :
    gives (withRegs [(4, 0xFFFF_FFFF_FFFF_FFFF), (5, 0x0001)] base) 0x0085_102A 2 0x0001 = true := by
  decide +kernel
theorem test_sltu_1 :
    gives (withRegs [(4, 0xFFFF_FFFF_FFFF_FFFF), (5, 0x0001)] base) 0x0085_102B 2 0x0000 = true := by
  decide +kernel
theorem test_slt_2 :
    gives (withRegs [(4, 0x0001_0000_0000), (5, 0xFFFF_FFFF)] base) 0x0085_102A 2 0x0000 = true := by
  decide +kernel
theorem test_dadd_1 :
    Raises (withRegs [(4, 0x7FFF_FFFF_FFFF_FFFF), (5, 0x0001)] base) 0x0085_102C .ov := rfl
theorem test_daddu_1 :
    gives (withRegs [(4, 0x7FFF_FFFF_FFFF_FFFF), (5, 0x0001)] base) 0x0085_102D 2 0x8000_0000_0000_0000 = true := by
  decide +kernel
theorem test_daddu_2 :
    gives (withRegs [(4, 0xFFFF_FFFF), (5, 0x0001)] base) 0x0085_102D 2 0x0001_0000_0000 = true := by
  decide +kernel
theorem test_daddi_1 : Raises (withRegs [(4, 0x8000_0000_0000_0000)] base) 0x6082_FFFF .ov := rfl
theorem test_daddiu_1 :
    gives (withRegs [(4, 0x8000_0000_0000_0000)] base) 0x6482_FFFF 2 0x7FFF_FFFF_FFFF_FFFF = true := by decide +kernel
theorem test_dsub_1 :
    Raises (withRegs [(4, 0x8000_0000_0000_0000), (5, 0x0001)] base) 0x0085_102E .ov := rfl
theorem test_dsubu_1 :
    gives (withRegs [(4, 0x0000), (5, 0x0001)] base) 0x0085_102F 2 0xFFFF_FFFF_FFFF_FFFF = true := by
  decide +kernel
theorem test_sll_1 :
    gives (withRegs [(4, 0x1234_5678_8765_4321)] base) 0x0004_1000 2 0xFFFF_FFFF_8765_4321 = true := by decide +kernel
theorem test_sll_2 :
    gives (withRegs [(4, 0x0001)] base) 0x0004_17C0 2 0xFFFF_FFFF_8000_0000 = true := by decide +kernel
theorem test_srl_1 :
    gives (withRegs [(4, 0xFFFF_FFFF_8000_0001)] base) 0x0004_1042 2 0x4000_0000 = true := by decide +kernel
theorem test_srl_2 :
    gives (withRegs [(4, 0xFFFF_FFFF_8000_0001)] base) 0x0004_1002 2 0xFFFF_FFFF_8000_0001 = true := by decide +kernel
theorem test_sra_1 :
    gives (withRegs [(4, 0xFFFF_FFFF_8000_0001)] base) 0x0004_1043 2 0xFFFF_FFFF_C000_0000 = true := by decide +kernel
theorem test_sra_2 :
    gives (withRegs [(4, 0xFFFF_FFFF_8000_0001)] base) 0x0004_17C3 2 0xFFFF_FFFF_FFFF_FFFF = true := by decide +kernel
theorem test_sllv_1 :
    gives (withRegs [(4, 0x0001), (5, 0x0021)] base) 0x00A4_1004 2 0x0002 = true := by
  decide +kernel
theorem test_srlv_1 :
    gives (withRegs [(4, 0xFFFF_FFFF_8000_0000), (5, 0x003F)] base) 0x00A4_1006 2 0x0001 = true := by
  decide +kernel
theorem test_srav_1 :
    gives (withRegs [(4, 0xFFFF_FFFF_8000_0000), (5, 0x0004)] base) 0x00A4_1007 2 0xFFFF_FFFF_F800_0000 = true := by
  decide +kernel
theorem test_dsll_1 :
    gives (withRegs [(4, 0x8000_0000_0000_0001)] base) 0x0004_1138 2 0x0010 = true := by decide +kernel
theorem test_dsrl_1 :
    gives (withRegs [(4, 0x8000_0000_0000_0001)] base) 0x0004_113A 2 0x0800_0000_0000_0000 = true := by decide +kernel
theorem test_dsra_1 :
    gives (withRegs [(4, 0x8000_0000_0000_0001)] base) 0x0004_113B 2 0xF800_0000_0000_0000 = true := by decide +kernel
theorem test_dsllv_1 :
    gives (withRegs [(4, 0x0001), (5, 0x007F)] base) 0x00A4_1014 2 0x8000_0000_0000_0000 = true := by
  decide +kernel
theorem test_dsrlv_1 :
    gives (withRegs [(4, 0x8000_0000_0000_0001), (5, 0x0040)] base) 0x00A4_1016 2 0x8000_0000_0000_0001 = true := by
  decide +kernel
theorem test_dsrav_1 :
    gives (withRegs [(4, 0x8000_0000_0000_0001), (5, 0x003F)] base) 0x00A4_1017 2 0xFFFF_FFFF_FFFF_FFFF = true := by
  decide +kernel
theorem test_dsll32_1 :
    gives (withRegs [(4, 0xFFFF_FFFF_8765_4321)] base) 0x0004_103C 2 0x8765_4321_0000_0000 = true := by decide +kernel
theorem test_dsrl32_1 :
    gives (withRegs [(4, 0x8765_4321_0000_0000)] base) 0x0004_103E 2 0x8765_4321 = true := by decide +kernel
theorem test_dsra32_1 :
    gives (withRegs [(4, 0x8765_4321_0000_0000)] base) 0x0004_103F 2 0xFFFF_FFFF_8765_4321 = true := by decide +kernel
theorem test_dsra32_2 :
    gives (withRegs [(4, 0x8765_4321_0000_0000)] base) 0x0004_17FF 2 0xFFFF_FFFF_FFFF_FFFF = true := by decide +kernel
theorem test_mult_1 :
    runs (withRegs [(4, 0x0001_0000), (5, 0x8000)] base) 0x0085_0018 (fun t => t.hi == 0x0000 &&
      t.lo == 0xFFFF_FFFF_8000_0000) = true := by
  decide +kernel
theorem test_mult_2 :
    runs (withRegs [(4, 0xFFFF_FFFF_8000_0000), (5, 0xFFFF_FFFF_8000_0000)] base) 0x0085_0018 (fun t => t.hi == 0x4000_0000 &&
      t.lo == 0x0000) = true := by
  decide +kernel
theorem test_multu_1 :
    runs (withRegs [(4, 0xFFFF_FFFF_8000_0000), (5, 0x0002)] base) 0x0085_0019 (fun t => t.hi == 0x0001 &&
      t.lo == 0x0000) = true := by
  decide +kernel
theorem test_div_1 :
    runs (withRegs [(4, 0x0007), (5, 0xFFFF_FFFF_FFFF_FFFE)] base) 0x0085_001A (fun t => t.hi == 0x0001 &&
      t.lo == 0xFFFF_FFFF_FFFF_FFFD) = true := by
  decide +kernel
theorem test_div_2 :
    runs (withRegs [(4, 0xFFFF_FFFF_8000_0000), (5, 0xFFFF_FFFF_FFFF_FFFF)] base) 0x0085_001A (fun t => t.hi == 0x0000 &&
      t.lo == 0xFFFF_FFFF_8000_0000) = true := by
  decide +kernel
theorem test_divu_1 :
    runs (withRegs [(4, 0xFFFF_FFFF_FFFF_FFFE), (5, 0x0001)] base) 0x0085_001B (fun t => t.hi == 0x0000 &&
      t.lo == 0xFFFF_FFFF_FFFF_FFFE) = true := by
  decide +kernel
theorem test_dmult_1 :
    runs (withRegs [(4, 0x8000_0000_0000_0000), (5, 0x0002)] base) 0x0085_001C (fun t => t.hi == 0xFFFF_FFFF_FFFF_FFFF &&
      t.lo == 0x0000) = true := by
  decide +kernel
theorem test_dmultu_1 :
    runs (withRegs [(4, 0x8000_0000_0000_0000), (5, 0x0002)] base) 0x0085_001D (fun t => t.hi == 0x0001 &&
      t.lo == 0x0000) = true := by
  decide +kernel
theorem test_ddiv_1 :
    runs (withRegs [(4, 0xFFFF_FFFF_FFFF_FFF9), (5, 0x0002)] base) 0x0085_001E (fun t => t.hi == 0xFFFF_FFFF_FFFF_FFFF &&
      t.lo == 0xFFFF_FFFF_FFFF_FFFD) = true := by
  decide +kernel
theorem test_ddiv_2 :
    runs (withRegs [(4, 0x8000_0000_0000_0000), (5, 0xFFFF_FFFF_FFFF_FFFF)] base) 0x0085_001E (fun t => t.hi == 0x0000 &&
      t.lo == 0x8000_0000_0000_0000) = true := by
  decide +kernel
theorem test_ddivu_1 :
    runs (withRegs [(4, 0xFFFF_FFFF_FFFF_FFF9), (5, 0x0002)] base) 0x0085_001F (fun t => t.hi == 0x0001 &&
      t.lo == 0x7FFF_FFFF_FFFF_FFFC) = true := by
  decide +kernel
theorem test_mfhi_1 :
    gives (withHiLo 0x0123_4567_89AB_CDEF 0x0000 base) 0x1010 2 0x0123_4567_89AB_CDEF = true := by
  decide +kernel
theorem test_mtlo_1 :
    runs (withRegs [(4, 0xFFFF_FFFF_0000_0001)] base)
      0x0080_0013 (fun t => t.lo == 0xFFFF_FFFF_0000_0001) = true := by
  decide +kernel
theorem test_macc_1 :
    runs (withHiLo 0x0000 0x0001 (withRegs [(4, 0xFFFF_FFFF_FFFF_FFFE), (5, 0x0003)] base)) 0x0085_4028 (fun t => t.getReg 8 == 0xFFFF_FFFF_FFFF_FFFB &&
      t.hi == 0xFFFF_FFFF_FFFF_FFFF && t.lo == 0xFFFF_FFFF_FFFF_FFFB) = true := by
  decide +kernel
theorem test_maccu_1 :
    runs (withHiLo 0x0000 0x0001 (withRegs [(4, 0xFFFF_FFFF_FFFF_FFFE), (5, 0x0003)] base)) 0x0085_4068 (fun t => t.getReg 8 == 0xFFFF_FFFF_FFFF_FFFB &&
      t.hi == 0x0002 && t.lo == 0xFFFF_FFFF_FFFF_FFFB) = true := by
  decide +kernel
theorem test_macchi_1 :
    runs (withHiLo 0x0000 0x0000 (withRegs [(4, 0x0001_0000), (5, 0x0001_0000)] base)) 0x0085_4228 (fun t => t.getReg 8 == 0x0001 &&
      t.hi == 0x0001 && t.lo == 0x0000) = true := by
  decide +kernel
theorem test_macchiu_1 :
    runs (withHiLo 0x0000 0x0000 (withRegs [(4, 0xFFFF_FFFF_FFFF_FFFF), (5, 0xFFFF_FFFF_FFFF_FFFF)] base)) 0x0085_4268 (fun t => t.getReg 8 == 0xFFFF_FFFF_FFFF_FFFE &&
      t.hi == 0xFFFF_FFFF_FFFF_FFFE && t.lo == 0x0001) = true := by
  decide +kernel
theorem test_maccs_1 :
    runs (withHiLo 0x0000 0x7FFF_0000 (withRegs [(4, 0x7FFF), (5, 0x7FFF)] base)) 0x0085_4428 (fun t => t.getReg 8 == 0x7FFF_FFFF &&
      t.hi == 0x0000 && t.lo == 0x7FFF_FFFF) = true := by
  decide +kernel
theorem test_maccs_2 :
    runs (withHiLo 0xFFFF_FFFF_FFFF_FFFF 0xFFFF_FFFF_8000_0100 (withRegs [(4, 0xFFFF_FFFF_FFFF_8000), (5, 0x7FFF)] base)) 0x0085_4428 (fun t => t.getReg 8 == 0xFFFF_FFFF_8000_0000 &&
      t.hi == 0xFFFF_FFFF_FFFF_FFFF && t.lo == 0xFFFF_FFFF_8000_0000) = true := by
  decide +kernel
theorem test_maccus_1 :
    runs (withHiLo 0x0000 0xFFFF_0000 (withRegs [(4, 0xFFFF), (5, 0xFFFF)] base)) 0x0085_4468 (fun t => t.getReg 8 == 0xFFFF_FFFF_FFFF_FFFF &&
      t.hi == 0xFFFF_FFFF_FFFF_FFFF && t.lo == 0xFFFF_FFFF_FFFF_FFFF) = true := by
  decide +kernel
theorem test_macchis_1 :
    runs (withHiLo 0x0000 0x0005 (withRegs [(4, 0x0003), (5, 0x0004)] base)) 0x0085_4628 (fun t => t.getReg 8 == 0x0000 &&
      t.hi == 0x0000 && t.lo == 0x0011) = true := by
  decide +kernel
theorem test_macchius_1 :
    runs (withHiLo 0x0000 0xFFFF_0000 (withRegs [(4, 0xFFFF), (5, 0xFFFF)] base)) 0x0085_4668 (fun t => t.getReg 8 == 0xFFFF_FFFF_FFFF_FFFF &&
      t.hi == 0xFFFF_FFFF_FFFF_FFFF && t.lo == 0xFFFF_FFFF_FFFF_FFFF) = true := by
  decide +kernel
theorem test_dmacc_1 :
    runs (withHiLo 0x1111 0x0001_0000_0000 (withRegs [(4, 0xFFFF_FFFF_FFFF_FFFE), (5, 0x0003)] base)) 0x0085_4029 (fun t => t.getReg 8 == 0xFFFF_FFFA &&
      t.hi == 0x1111 && t.lo == 0xFFFF_FFFA) = true := by
  decide +kernel
theorem test_dmaccu_1 :
    runs (withHiLo 0x1111 0x0001 (withRegs [(4, 0xFFFF_FFFF_FFFF_FFFE), (5, 0x0003)] base)) 0x0085_4069 (fun t => t.getReg 8 == 0x0002_FFFF_FFFB &&
      t.hi == 0x1111 && t.lo == 0x0002_FFFF_FFFB) = true := by
  decide +kernel
theorem test_dmaccs_1 :
    runs (withHiLo 0x0000 0x7FFF_0000 (withRegs [(4, 0x7FFF), (5, 0x7FFF)] base)) 0x0085_4429 (fun t => t.getReg 8 == 0x7FFF_FFFF &&
      t.hi == 0x0000 && t.lo == 0x7FFF_FFFF) = true := by
  decide +kernel
theorem test_dmaccus_1 :
    runs (withHiLo 0x0000 0xFFFF_0000 (withRegs [(4, 0xFFFF), (5, 0xFFFF)] base)) 0x0085_4469 (fun t => t.getReg 8 == 0xFFFF_FFFF_FFFF_FFFF &&
      t.hi == 0x0000 && t.lo == 0xFFFF_FFFF_FFFF_FFFF) = true := by
  decide +kernel
theorem test_dmacchi_1 :
    runs (withHiLo 0x1111 0x0001 (withRegs [(4, 0x0002), (5, 0x0003)] base)) 0x0085_4229 (fun t => t.getReg 8 == 0x1111 &&
      t.hi == 0x1111 && t.lo == 0x0007) = true := by
  decide +kernel
theorem test_dmacc_2 : Raises (withStatus 0x10 base) 0x0085_4029 .ri := rfl
theorem test_lb_1 :
    gives (mem.setReg 8 0xAAAA_AAAA_1234_5678) 0x8088_0004 8 0xFFFF_FFFF_FFFF_FF84 = true := by decide +kernel
theorem test_lbu_1 :
    gives (mem.setReg 8 0xAAAA_AAAA_1234_5678) 0x9088_0004 8 0x0084 = true := by decide +kernel
theorem test_lb_2 :
    gives (cachedMem.setReg 8 0xAAAA_AAAA_1234_5678) 0x8088_0001 8 0x0011 = true := by decide +kernel
theorem test_lh_1 :
    gives (mem.setReg 8 0xAAAA_AAAA_1234_5678) 0x8488_0006 8 0xFFFF_FFFF_FFFF_F766 = true := by decide +kernel
theorem test_lhu_1 :
    gives (mem.setReg 8 0xAAAA_AAAA_1234_5678) 0x9488_0006 8 0xF766 = true := by decide +kernel
theorem test_lw_1 :
    gives (mem.setReg 8 0xAAAA_AAAA_1234_5678) 0x8C88_0004 8 0xFFFF_FFFF_F766_5584 = true := by decide +kernel
theorem test_lwu_1 :
    gives (mem.setReg 8 0xAAAA_AAAA_1234_5678) 0x9C88_0004 8 0xF766_5584 = true := by decide +kernel
theorem test_lw_2 :
    gives (cachedMem.setReg 8 0xAAAA_AAAA_1234_5678) 0x8C88_0000 8 0x3322_1100 = true := by decide +kernel
theorem test_ld_1 :
    gives (mem.setReg 8 0xAAAA_AAAA_1234_5678) 0xDC88_0000 8 0xF766_5584_3322_1100 = true := by decide +kernel
theorem test_ld_2 :
    gives (cachedMem.setReg 8 0xAAAA_AAAA_1234_5678) 0xDC88_0008 8 0xFFEE_DDCC_BBAA_9988 = true := by decide +kernel
theorem test_lh_misaligned : Raises cachedMem 0x8488_0001 (.addressError false 0xFFFF_FFFF_8000_2001) := rfl
theorem test_lw_misaligned : Raises cachedMem 0x8C88_0006 (.addressError false 0xFFFF_FFFF_8000_2006) := rfl
theorem test_ld_misaligned : Raises cachedMem 0xDC88_0004 (.addressError false 0xFFFF_FFFF_8000_2004) := rfl
theorem test_sw_misaligned : Raises cachedMem 0xAC88_0002 (.addressError true 0xFFFF_FFFF_8000_2002) := rfl
theorem test_lwl_1 :
    gives (mem.setReg 8 0xAAAA_AAAA_1234_5678) 0x8888_0001 8 0x1100_5678 = true := by decide +kernel
theorem test_lwl_2 :
    gives (cachedMem.setReg 8 0xAAAA_AAAA_1234_5678) 0x8888_0002 8 0x2211_0078 = true := by decide +kernel
theorem test_lwr_1 :
    gives (mem.setReg 8 0xAAAA_AAAA_1234_5678) 0x9888_0001 8 0x1233_2211 = true := by decide +kernel
theorem test_lwr_2 :
    gives (cachedMem.setReg 8 0xAAAA_AAAA_1234_5678) 0x9888_0002 8 0x1234_3322 = true := by decide +kernel
theorem test_ldl_1 :
    gives (mem.setReg 8 0x0102_0304_0506_0708) 0x6888_0002 8 0x2211_0004_0506_0708 = true := by decide +kernel
theorem test_ldl_2 :
    gives (cachedMem.setReg 8 0x0102_0304_0506_0708) 0x6888_0005 8 0x5584_3322_1100_0708 = true := by decide +kernel
theorem test_ldr_1 :
    gives (mem.setReg 8 0x0102_0304_0506_0708) 0x6C88_0002 8 0x0102_F766_5584_3322 = true := by decide +kernel
theorem test_ldr_2 :
    gives (cachedMem.setReg 8 0x0102_0304_0506_0708) 0x6C88_0005 8 0x0102_0304_05F7_6655 = true := by decide +kernel
theorem test_swl_1 :
    runs mem 0xA888_0001 (fun t => bytesAt t 0x2000 4 == 0x3322_A1B2 && bytesAt t 0x2010 16 == 0) = true := by
  decide +kernel
theorem test_swl_2 :
    runs mem 0xA888_0002 (fun t => bytesAt t 0x2000 4 == 0x33A1_B2C3 && bytesAt t 0x2010 16 == 0) = true := by
  decide +kernel
theorem test_swr_1 :
    runs mem 0xB888_0001 (fun t => bytesAt t 0x2000 4 == 0xB2C3_D400 && bytesAt t 0x2010 16 == 0) = true := by
  decide +kernel
theorem test_swr_2 :
    runs mem 0xB888_0002 (fun t => bytesAt t 0x2000 4 == 0xC3D4_1100 && bytesAt t 0x2010 16 == 0) = true := by
  decide +kernel
theorem test_sdl_1 :
    runs mem 0xB088_0003 (fun t => bytesAt t 0x2000 8 == 0xF766_5584_0102_0304 && bytesAt t 0x2010 16 == 0) = true := by
  decide +kernel
theorem test_sdl_2 :
    runs mem 0xB088_0007 (fun t => bytesAt t 0x2000 8 == 0x0102_0304_A1B2_C3D4 && bytesAt t 0x2010 16 == 0) = true := by
  decide +kernel
theorem test_sdr_1 :
    runs mem 0xB488_0003 (fun t => bytesAt t 0x2000 8 == 0x04A1_B2C3_D422_1100 && bytesAt t 0x2010 16 == 0) = true := by
  decide +kernel
theorem test_sdr_2 :
    runs mem 0xB488_0007 (fun t => bytesAt t 0x2000 8 == 0xD466_5584_3322_1100 && bytesAt t 0x2010 16 == 0) = true := by
  decide +kernel
theorem test_sb_1 :
    runs mem 0xA088_0005 (fun t => bytesAt t 0x2004 4 == 0xF766_D484 && bytesAt t 0x2010 16 == 0) = true := by
  decide +kernel
theorem test_sh_1 :
    runs mem 0xA488_0006 (fun t => bytesAt t 0x2004 4 == 0xC3D4_5584 && bytesAt t 0x2010 16 == 0) = true := by
  decide +kernel
theorem test_sw_1 :
    runs mem 0xAC88_0004 (fun t => bytesAt t 0x2004 4 == 0xA1B2_C3D4 && bytesAt t 0x2010 16 == 0) = true := by
  decide +kernel
theorem test_sd_1 :
    runs mem 0xFC88_0008 (fun t => bytesAt t 0x2008 8 == 0x0102_0304_A1B2_C3D4 && bytesAt t 0x2010 16 == 0) = true := by
  decide +kernel

/-! ### Jumps and branches (§2.5); A = FFFF_FFFF_8000_1000H -/

/-- The word leads to `pc`, standing in `slot`. -/
def leads (s : State) (w : Word) (pc : Dword) (slot : Slot) : Bool := runs s w fun t => t.pc == pc && t.slot == slot

/-- The word leads there, with r31 = `link`. -/
def links (s : State) (w : Word) (pc : Dword) (slot : Slot) (link : Dword) : Bool :=
  runs s w fun t => t.pc == pc && t.slot == slot && t.getReg 31 == link

/-- The address behind A, and the one behind the delay slot. -/
abbrev slotPc : Dword := 0xFFFF_FFFF_8000_1004
abbrev behind : Dword := 0xFFFF_FFFF_8000_1008

theorem test_beq_taken :
    leads (withRegs [(4, 5), (5, 5)] base) 0x1085_0003 slotPc (.delay (some 0xFFFF_FFFF_8000_1010)) = true := by
  decide +kernel
theorem test_beq_all_64_bits :
    leads (withRegs [(4, 0x1_0000_0005), (5, 5)] base) 0x1085_0003 slotPc (.delay none) = true := by
  decide +kernel
theorem test_beq_farthest : leads base 0x1000_7FFF slotPc (.delay (some 0xFFFF_FFFF_8002_1000)) = true ∧
    leads base 0x1000_8000 slotPc (.delay (some 0xFFFF_FFFF_7FFE_1004)) = true := by decide +kernel
theorem test_bne_backward :
    leads (withRegs [(4, 1)] base) 0x1480_FFFC slotPc (.delay (some 0xFFFF_FFFF_8000_0FF4)) = true := by
  decide +kernel
theorem test_beql_nullifies :
    leads (withRegs [(4, 1), (5, 2)] base) 0x5085_0003 behind .normal = true := by decide +kernel
theorem test_bgez_zero : leads base 0x0481_0002 slotPc (.delay (some 0xFFFF_FFFF_8000_100C)) = true := by decide +kernel
theorem test_bltz_bit_63 :
    leads (withRegs [(4, 0x8000_0000)] base) 0x0480_0002 slotPc (.delay none) = true := by decide +kernel
theorem test_blez_zero : leads base 0x1880_0002 slotPc (.delay (some 0xFFFF_FFFF_8000_100C)) = true := by decide +kernel
theorem test_bgtz_negative :
    leads (withRegs [(4, 0x8000_0000_0000_0000)] base) 0x1C80_0002 slotPc (.delay none) = true := by
  decide +kernel
theorem test_bltzal_links_untaken :
    links (withRegs [(4, 1)] base) 0x0490_0002 slotPc (.delay none) behind = true := by decide +kernel
theorem test_bgezal_links :
    links base 0x0411_0002 slotPc (.delay (some 0xFFFF_FFFF_8000_100C)) behind = true := by decide +kernel
theorem test_bgezall_nullifies :
    links (withRegs [(4, -1)] base) 0x0493_0002 behind .normal behind = true := by decide +kernel
theorem test_j : leads { base with pc := 0xFFFF_FFFF_8000_2000 } 0x0800_0400 0xFFFF_FFFF_8000_2004
    (.delay (some 0xFFFF_FFFF_8000_1000)) = true := by decide +kernel
theorem test_j_region_of_the_slot : leads { base with pc := 0xFFFF_FFFF_8FFF_FFFC } 0x0800_0100 0xFFFF_FFFF_9000_0000
    (.delay (some 0xFFFF_FFFF_9000_0400)) = true := by decide +kernel
theorem test_jal : links { base with pc := 0xFFFF_FFFF_8000_2000 } 0x0C00_0400 0xFFFF_FFFF_8000_2004
    (.delay (some 0xFFFF_FFFF_8000_1000)) 0xFFFF_FFFF_8000_2008 = true := by decide +kernel
theorem test_jr :
    leads (withRegs [(31, 0xFFFF_FFFF_8000_2008)] base) 0x03E0_0008 slotPc (.delay (some 0xFFFF_FFFF_8000_2008)) = true := by
  decide +kernel
theorem test_jalr :
    links (withRegs [(4, 0xFFFF_FFFF_8000_3000)] base) 0x0080_F809 slotPc (.delay (some 0xFFFF_FFFF_8000_3000)) behind
    = true := by decide +kernel
theorem test_slot_completes_the_branch : leads { base with slot := .delay (some 0xFFFF_FFFF_8000_4000) } 0x0000
    0xFFFF_FFFF_8000_4000 .normal = true := by decide +kernel
theorem test_jalx : Raises base 0x7400_0000 .ri := rfl
theorem test_bc0t_user : Raises (withStatus 0x10 base) 0x4101_0002 (.cpu 0) := rfl
theorem test_bc0f : leads base 0x4100_0002 slotPc (.delay (some 0xFFFF_FFFF_8000_100C)) = true := by decide +kernel
/-- R375: the fetch from a misaligned target, at the target. -/
theorem test_misaligned_fetch : ({ base with pc := 0xFFFF_FFFF_8000_2002 } : State).boundary =
    .next (State.takeException { base with pc := 0xFFFF_FFFF_8000_2002 } (.addressError false 0xFFFF_FFFF_8000_2002)) := rfl

/-! ### System calls and traps (§2.6) -/

/-- The word has no effect. -/
def noEffect (s : State) (w : Word) : Bool := runs s w fun t => t.gpr == s.gpr && t.pc == slotPc && t.mem == s.mem

theorem test_syscall : Raises base 0x000C .sys ∧ Raises base 0x02AF_378C .sys := ⟨rfl, rfl⟩
theorem test_break : Raises base 0x0007_000D .bp := rfl
theorem test_sync : noEffect base 0x000F = true := by decide +kernel
theorem test_teq : Raises (withRegs [(4, 0x1_0000_0000), (5, 0x1_0000_0000)] base) 0x0085_0034 .tr := rfl
theorem test_teq_64_bits : noEffect (withRegs [(4, 0x1_0000_0000)] base) 0x0085_0034 = true := by decide +kernel
theorem test_tne : noEffect (withRegs [(4, 7), (5, 7)] base) 0x0085_0036 = true := by decide +kernel
theorem test_tge : noEffect (withRegs [(4, -1)] base) 0x0085_0030 = true := by decide +kernel
theorem test_tgeu : Raises (withRegs [(4, -1)] base) 0x0085_0031 .tr := rfl
theorem test_tlt : Raises (withRegs [(4, -1)] base) 0x0085_0032 .tr := rfl
theorem test_tltu : noEffect (withRegs [(4, -1)] base) 0x0085_0033 = true := by decide +kernel
theorem test_tgei : Raises (withRegs [(4, -1)] base) 0x0488_FFFF .tr := rfl
theorem test_tgeiu : noEffect (withRegs [(4, 5)] base) 0x0489_FFFF = true := by decide +kernel
theorem test_tlti : Raises (withRegs [(4, 0x8000_0000_0000_0000)] base) 0x048A_0000 .tr := rfl
theorem test_tltiu : Raises (withRegs [(4, 5)] base) 0x048B_FFFF .tr := rfl
theorem test_teqi : Raises (withRegs [(4, 0x7FFF)] base) 0x048C_7FFF .tr := rfl
theorem test_tnei : noEffect (withRegs [(4, 0xFFFF_FFFF_FFFF_8000)] base) 0x048E_8000 = true := by decide +kernel

/-! ### Coprocessor 0 (§2.7) -/

/-- Kernel mode with r8 set. -/
abbrev with8 (v : Dword) : State := base.setReg 8 v

theorem test_mtc0_status :
    runs (with8 (-1)) 0x4088_6000 (fun t => t.cp0.status == 0x12D7_FFFF) = true := by decide +kernel
theorem test_mtc0_cause :
    runs (with8 0xFFFF_FFFF) 0x4088_6800 (fun t => t.cp0.cause == 0x300) = true := by decide +kernel
theorem test_mtc0_masks : runs (with8 (-1)) 0x4088_1000 (fun t => t.cp0.entryLo0 == 0x0FFF_FFFF) = true ∧
    runs (with8 0xFFFF_FFFF) 0x4088_2800 (fun t => t.cp0.pageMask == 0x7_F800) = true ∧
    runs (with8 8) 0x4088_3000 (fun t => t.cp0.wired == 8 && t.cp0.random == 31) = true := by decide +kernel
theorem test_mtc0_compare : runs { with8 7 with cp0 := { base.cp0 with cause := 0x8000 } } 0x4088_5800
    (fun t => t.cp0.compare == 7 && t.cp0.cause == 0) = true := by decide +kernel
theorem test_mtc0_random :
    runs (with8 3) 0x4088_0800 (fun t => t.cp0 == { base.cp0 with random := base.cp0.nextRandom }) = true := by
  decide +kernel
theorem test_mfc0_prid :
    runs base 0x4008_7800 (fun t => (t.getReg 8 &&& 0xFFFF_FFFF_FFFF_FF00) == 0xC00) = true := by decide +kernel
theorem test_mfc0_rfu : runs (with8 5) 0x4008_3800 (fun t => t.getReg 8 == 0) = true := by decide +kernel

/-- BadVAddr = 0000_0000_8000_0004H. -/
def badAt : State := { base with cp0 := { base.cp0 with badVAddr := 0x8000_0004 } }
theorem test_mfc0_sign_extends : gives badAt 0x4008_4000 8 0xFFFF_FFFF_8000_0004 = true := by decide +kernel
theorem test_dmfc0 : gives badAt 0x4028_4000 8 0x8000_0004 = true := by decide +kernel
theorem test_dmtc0_supervisor : Raises (withStatus 0x1000_0008 base) 0x40A8_7000 .ri := rfl
theorem test_mtc0_user : Raises (withStatus 0x10 base) 0x4088_6000 (.cpu 0) := rfl

/-- The state of the TLBWI vector, and TLB entry 3 as it writes it. -/
def tlbRegs : State := { base with cp0 := { base.cp0 with
  index := 3, pageMask := 0x1800, entryHi := 0x0040_0005, entryLo0 := 0x31F, entryLo1 := 0x41A, wired := 8, random := 20 } }
def entry3 : TlbEntry :=
  { mask := 0x03, r := 0, vpn2 := 0x800, g := false, asid := 5,
    page0 := { pfn := 0x00000C, c := 3, d := true, v := true }, page1 := { pfn := 0x000010, c := 3, d := false, v := true } }
/-- A state whose TLB holds the entry only. -/
def withEntry (e : TlbEntry) (s : State) : State := { s with tlb := s.tlb.set 3 e }

theorem test_tlbwi :
    runs tlbRegs 0x4200_0002 (fun t => t.tlb[3] == entry3 && t.tlb[4] == base.tlb[4]) = true := by decide +kernel
theorem test_tlbr : runs (withEntry entry3 { base with cp0 := { base.cp0 with index := 3 } }) 0x4200_0001 (fun t =>
    t.cp0.pageMask == 0x1800 && t.cp0.entryHi == 0x0040_0005 && t.cp0.entryLo0 == 0x31E && t.cp0.entryLo1 == 0x41A) = true := by
  decide +kernel
theorem test_tlbp_match :
    runs (withEntry entry3 { base with cp0 := { base.cp0 with entryHi := 0x0040_1005 } }) 0x4200_0008
    (fun t => t.cp0.index == 3) = true := by decide +kernel
theorem test_tlbp_probe_fails :
    ∃ x : Dword, (withEntry entry3 { base with cp0 := { base.cp0 with entryHi := 0x0040_2005 } }).probeResult.cp0.index =
    (0x8000_0000 ||| ((x.setWidth 32 : Word) &&& 0x1F)) := ⟨_, rfl⟩
theorem test_tlbwr :
    runs tlbRegs 0x4200_0006 (fun t => t.tlb[20] == entry3 && t.tlb[3] == base.tlb[3]) = true := by decide +kernel

/-- EPC = E and ErrorEPC = F. -/
def returning (status : Word) : State :=
  withStatus status { base with cp0 := { base.cp0 with epc := 0x8000_2000, errorEpc := 0x8000_3000 } }
theorem test_eret_exl :
    runs (returning 0x403) 0x4200_0018 (fun t => t.pc == 0x8000_2000 && t.cp0.status == 0x401) = true := by
  decide +kernel
theorem test_eret_erl :
    runs (returning 0x0040_0007) 0x4200_0018 (fun t => t.pc == 0x8000_3000 && t.cp0.status == 0x0040_0003) = true := by
  decide +kernel
theorem test_standby : runs base 0x4200_0021 (fun t => t.power == .standby) = true := by decide +kernel
theorem test_suspend : runs base 0x4200_0022 (fun t => t.power == .suspend) = true := by decide +kernel
theorem test_hibernate : runs base 0x4200_0023 (fun t => t.power == .hibernate) = true := by decide +kernel

/-- The line of physical 2000H, dirty, in the data cache: r4 = FFFF_FFFF_8000_2000H hits it. -/
def dirtyLine : DLine := { v := true, d := true, w := true, ptag := 0x8, data := 0x0F0E_0D0C_0B0A_0908_0706_0504_0302_0100 }
def inCache : State := cachedMem.setDLine (dIndex 0xFFFF_FFFF_8000_2000) dirtyLine
theorem test_cache_write_back_invalidate : runs inCache 0xBC95_0000 (fun t =>
    bytesAt t 0x2000 16 == 0x0F0E_0D0C_0B0A_0908_0706_0504_0302_0100 && !(t.dLine (dIndex 0x2000)).v) = true := by decide +kernel
theorem test_cache_store_tag :
    runs { inCache with cp0 := { inCache.cp0 with tagLo := 0x0012_3600 } } 0xBC88_0000 (fun t =>
    (t.iLine (iIndex 0x2000)).ptag == 0x48D && (t.iLine (iIndex 0x2000)).v) = true := by decide +kernel

/-! ### Addresses and translation (§2.8) -/

/-- The address translates, without the TLB or with it, to this physical address and cacheability. -/
def mapsTo (s : State) (w : Bool) (va : Dword) (pa : PAddr) (cached : Bool) : Bool :=
  match s.translate w va with
  | .ok t _ => t == { pa := pa, cached := cached }
  | _ => false
/-- The address raises the exception. -/
def faultsWith (s : State) (w : Bool) (va : Dword) (e : Exc) : Bool :=
  match s.translate w va with
  | .raise x _ => x == e
  | _ => false

theorem test_segments_kernel : mapsTo base false 0xFFFF_FFFF_8000_1000 0x1000 true = true ∧
    mapsTo base false 0xFFFF_FFFF_A000_1000 0x1000 false = true ∧
    mapsTo base false 0xFFFF_FFFF_BFC0_0000 0x1FC0_0000 false = true ∧
    faultsWith base false 0xFFFF_FFFF_C000_0000 (.tlbRefill false 0xFFFF_FFFF_C000_0000) = true ∧
    faultsWith base false 0x8000_1000 (.addressError false 0x8000_1000) = true ∧
    mapsTo (withStatus 4 base) false 0x0040_0000 0x0040_0000 false = true := by decide +kernel
theorem test_segments_supervisor :
    faultsWith (withStatus 8 base) true 0xFFFF_FFFF_8000_1000 (.addressError true 0xFFFF_FFFF_8000_1000) = true ∧
    faultsWith (withStatus 8 base) true 0xFFFF_FFFF_C000_0000 (.tlbRefill true 0xFFFF_FFFF_C000_0000) = true ∧
    faultsWith (withStatus 8 base) true 0xFFFF_FFFF_E000_0000 (.addressError true 0xFFFF_FFFF_E000_0000) = true := by decide +kernel
theorem test_segments_user : faultsWith (withStatus 0x10 base) false 0x7FFF_FFFC (.tlbRefill false 0x7FFF_FFFC) = true ∧
    faultsWith (withStatus 0x10 base) false 0xFFFF_FFFF_8000_0000 (.addressError false 0xFFFF_FFFF_8000_0000) = true ∧
    faultsWith (withStatus 0x30 base) false 0xFF_FFFF_FFF8 (.tlbRefill false 0xFF_FFFF_FFF8) = true ∧
    faultsWith (withStatus 0x30 base) false 0x100_0000_0000 (.addressError false 0x100_0000_0000) = true := by decide +kernel
theorem test_segments_64 : mapsTo (withStatus 0x80 base) false 0x9000_0000_1000_00B0 0x1000_00B0 false = true ∧
    mapsTo (withStatus 0x80 base) false 0x9800_0000_0000_1000 0x1000 true = true ∧
    faultsWith (withStatus 0x80 base) false 0x9000_0001_0000_0000 (.addressError false 0x9000_0001_0000_0000) = true ∧
    faultsWith (withStatus 0x80 base) false 0xC000_00FF_7FFF_FFF8 (.tlbRefill false 0xC000_00FF_7FFF_FFF8) = true ∧
    faultsWith (withStatus 0x80 base) false 0xC000_00FF_8000_0000 (.addressError false 0xC000_00FF_8000_0000) = true ∧
    mapsTo (withStatus 0x80 base) false 0xFFFF_FFFF_A000_1000 0x1000 false = true := by decide +kernel

/-- The one entry, with EntryHi.ASID = 5 or another. -/
def mapped (asid : Dword) : State := withEntry entry3 { base with cp0 := { base.cp0 with entryHi := asid } }
theorem test_tlb_pages :
    mapsTo (mapped 5) false 0x0040_0ABC 0x3ABC true = true ∧ mapsTo (mapped 5) false 0x0040_1ABC 0x4ABC true = true ∧
    mapsTo (mapped 5) true 0x0040_0ABC 0x3ABC true = true := by decide +kernel
theorem test_tlb_exceptions : faultsWith (mapped 5) true 0x0040_1ABC (.mod 0x0040_1ABC) = true ∧
    faultsWith (mapped 6) false 0x0040_0ABC (.tlbRefill false 0x0040_0ABC) = true ∧
    faultsWith (mapped 5) false 0x0040_2ABC (.tlbRefill false 0x0040_2ABC) = true ∧
    faultsWith (withEntry { entry3 with page1 := { entry3.page1 with v := false } } (mapped 5)) false 0x0040_1ABC
      (.tlbInvalid false 0x0040_1ABC) = true := by decide +kernel

/-! ### Exceptions (§2.9) -/

/-- The start of §2.9: Status = 0000_0401H. -/
def start : State := withStatus 0x401 base
/-- What exception entry leaves: EPC, Status, pc and the ExcCode. -/
def entered (s : State) (e : Exc) (epc : Dword) (status : Word) (pc : Dword) (code : BitVec 5) : Prop :=
  (s.takeException e).cp0.epc = epc ∧ (s.takeException e).cp0.status = status ∧ (s.takeException e).pc = pc ∧ e.code = code
theorem test_entry_syscall : entered start .sys 0xFFFF_FFFF_8000_1000 0x403 0xFFFF_FFFF_8000_0180 8 := by
  refine ⟨?_, ?_, ?_, ?_⟩ <;> rfl
theorem test_entry_in_slot :
    entered { start with pc := slotPc, slot := .delay (some 0x1234) } .sys 0xFFFF_FFFF_8000_1000 0x403
    0xFFFF_FFFF_8000_0180 8 ∧ (State.takeException { start with pc := slotPc, slot := .delay (some 0x1234) } .sys).slot = .normal := by
  refine ⟨⟨?_, ?_, ?_, ?_⟩, ?_⟩ <;> rfl
theorem test_entry_bev :
    entered (withStatus 0x0040_0401 base) .bp 0xFFFF_FFFF_8000_1000 0x0040_0403 0xFFFF_FFFF_BFC0_0380 9 := by
  refine ⟨?_, ?_, ?_, ?_⟩ <;> rfl
theorem test_entry_refill :
    entered start (.tlbRefill false 0x0040_0010) 0xFFFF_FFFF_8000_1000 0x403 0xFFFF_FFFF_8000_0000 2 ∧
    (start.takeException (.tlbRefill false 0x0040_0010)).cp0.badVAddr = 0x0040_0010 ∧
    (start.takeException (.tlbRefill false 0x0040_0010)).cp0.context.extractLsb' 4 21 = (0x800 : BitVec 21) := by
  refine ⟨⟨?_, ?_, ?_, ?_⟩, ?_, ?_⟩ <;> rfl
theorem test_entry_with_exl :
    entered (withStatus 0x403 base) (.tlbRefill false 0x0040_0010) 0 0x403 0xFFFF_FFFF_8000_0180 2 := by
  refine ⟨?_, ?_, ?_, ?_⟩ <;> rfl
theorem test_refill_by_load :
    Raises (withRegs [(4, 0x0040_0010)] start) 0x8C88_0000 (.tlbRefill false 0x0040_0010) := rfl
theorem test_reserved_word : Raises start 0x7000_0000 .ri := rfl
theorem test_lwc1 : Raises start 0xC480_0000 (.cpu 1) := rfl
theorem test_mfc0_user : Raises (withStatus 0x411 base) 0x4008_6000 (.cpu 0) := rfl

/-- Int0 asserted: the USB controller requests an interrupt. -/
def usbRequest (status : Word) : State :=
  withStatus status { base with usb := { base.usb with gsr1 := 1, imr1 := 1 } }
theorem test_interrupt : (usbRequest 0x401).causeNow = 0x400 ∧ (usbRequest 0x401).interruptEnabled = true ∧
    (usbRequest 0x401).boundary = .next ((usbRequest 0x401).takeException .int) := ⟨by decide +kernel, by decide +kernel, rfl⟩
theorem test_interrupt_masked :
    (usbRequest 0x400).interruptEnabled = false ∧ (usbRequest 0x001).interruptEnabled = false ∧
    (usbRequest 0x403).interruptEnabled = false ∧ (usbRequest 0x405).interruptEnabled = false := by decide +kernel
theorem test_nmi : nextIs ({ start with nmiPending := true } : State).boundary (fun t =>
    t.cp0 == { start.cp0 with errorEpc := 0xFFFF_FFFF_8000_1000, status := 0x0050_0405 } && t.pc == 0xFFFF_FFFF_BFC0_0000) = true := by
  decide +kernel
theorem test_cold_reset :
    nextIs ({ start with syscon := { start.syscon with resetRequest := true } } : State).boundary (fun t =>
    t.pc == 0xFFFF_FFFF_BFC0_0000 && t.erl && t.bev && t.cp0.random == 31 && t.cp0.wired == 0) = true := by decide +kernel
/-- R1115: the misaligned load takes the Address Error before the segment is looked at. -/
theorem test_priority : Raises (withRegs [(4, 0x8000_1002)] start) 0x8C88_0000 (.addressError false 0x8000_1002) := rfl

/-! ### Devices (§2.10) -/

theorem test_timer :
    timerCount 4 3 3 = (3, true) ∧ timerCount 3 3 3 = (0, false) ∧ timerCount 7 3 3 = (0, true) := by decide +kernel
/-- LDR at offset 0BH of the system controller: byte 3 of S_ISR, and S_IMR, with IRERR; bytes 2 to 0 of S_ISR stay (R242, R502). -/
theorem test_partial_burst :
    nextIs (exec (.ldr 8 4 0xB) (withRegs [(4, 0xFFFF_FFFF_B000_0000)] { base with syscon := { base.syscon with isr := 0x0102_0005 } }))
      (fun t => t.syscon.isr == 0x0002_0005 && t.syscon.nsr == 0x20) = true := by decide +kernel
/-- S_ISR = 0002_0005H. -/
def sIsr : Syscon := { State.reset.syscon with isr := 0x0002_0005 }
theorem test_read_clear : (sIsr.read false false 0x008 0xF).data = some 0x0002_0005 ∧
    (sIsr.read false false 0x008 0xF).dev.isr = 0 := by decide +kernel

/-! ### A step from reset -/

/-- The instruction placed at the reset vector runs first: ADDIU r8, r0, 8001H. -/
theorem test_first_instruction : nextIs (State.reset.withFetchWord 32 0x2408_8001).boundary (fun t =>
    t.getReg 8 == 0xFFFF_FFFF_FFFF_8001 && t.pc == 0xFFFF_FFFF_BFC0_0004) = true := by decide +kernel
theorem test_step_settles : ∃ t, State.runWord (State.reset.withFetchWord 32 0x2408_8001) 0x2408_8001 = .next t ∧
    step (State.reset.withFetchWord 32 0x2408_8001) = .next t.settle := ⟨_, rfl, rfl⟩

/-! ### Witnesses: for every obligation with hypotheses, states and operands that meet them -/

/-- An instruction in SDRAM, run uncached. -/
def uncachedCode : State := { base with pc := 0xFFFF_FFFF_A000_1000, mem := Memory.write [] 0x1000 4 0x2408_0005 }
theorem witness_StepRunsDecodedInstruction : uncachedCode.syscon.resetRequest = false ∧ uncachedCode.power = .fullspeed ∧
    uncachedCode.nmiPending = false ∧ uncachedCode.watchPending = false ∧ uncachedCode.badMode = false ∧
    uncachedCode.badConfig = false ∧ uncachedCode.fetchTarget = .ok { pa := 0x1000, cached := false } uncachedCode ∧
    uncachedCode.interruptEnabled = false ∧
    uncachedCode.fetchWord { pa := 0x1000, cached := false } = .ok 0x2408_0005 uncachedCode ∧
    decode 0x2408_0005 = .ok (.addiu 8 0 5) :=
  by and_intros <;> rfl
/-- Words that no row describes: in Kernel mode, and in User mode from a mapped page without the cache. -/
def userCode : State := withStatus 0x10 { withEntry { entry3 with page0 := { entry3.page0 with c := 2 } } base with
  pc := 0x0040_0000, cp0 := { base.cp0 with entryHi := 5 }, mem := Memory.write [] 0x3000 4 0x4200_003F }
theorem witness_StepRunsDecodedInstruction_reserved :
    let s (w : Nat) : State := { uncachedCode with mem := Memory.write [] 0x1000 4 w }
    (s 0x7000_0000).fetchWord { pa := 0x1000, cached := false } = .ok 0x7000_0000 (s 0x7000_0000) ∧
    (s 0x4200_003F).fetchWord { pa := 0x1000, cached := false } = .ok 0x4200_003F (s 0x4200_003F) ∧ (s 0x4200_003F).cop0Usable = true ∧
    decode 0x7000_0000 = .error .reserved ∧ decode 0x4200_003F = .error .reservedCop0 := by and_intros <;> rfl
theorem witness_StepRunsDecodedInstruction_unusable : AtInstruction userCode ∧
    userCode.fetchTarget = .ok { pa := 0x3000, cached := false } userCode ∧ userCode.interruptEnabled = false ∧
    userCode.fetchWord { pa := 0x3000, cached := false } = .ok 0x4200_003F userCode ∧ userCode.cop0Usable = false :=
  ⟨⟨rfl, rfl, rfl, .inl rfl, by decide +kernel, by decide +kernel⟩, rfl, by decide +kernel, rfl, by decide +kernel⟩
/-- A misaligned program counter, one that the TLB refuses, and one outside the boot ROM; interrupts off. -/
def fetching (pc : Dword) : State := { base with pc := pc }
theorem witness_InstructionFetch_exceptions : AtInstruction (fetching 0xFFFF_FFFF_8000_1002) ∧
    (fetching 0xFFFF_FFFF_8000_1002).pc.toNat % 4 ≠ 0 ∧ AtInstruction (fetching 0x0040_0000) ∧
    (fetching 0x0040_0000).translate false 0x0040_0000 = .raise (.tlbRefill false 0x0040_0000) (fetching 0x0040_0000) ∧
    AtInstruction (fetching 0xFFFF_FFFF_BF80_0000) ∧ (fetching 0xFFFF_FFFF_BF80_0000).interruptEnabled = false ∧
    (fetching 0xFFFF_FFFF_BF80_0000).fetchTarget = .ok { pa := 0x1F80_0000, cached := false } (fetching 0xFFFF_FFFF_BF80_0000) ∧
    ∃ u, (fetching 0xFFFF_FFFF_BF80_0000).readInstruction 0xFFFF_FFFF_BF80_0000 { pa := 0x1F80_0000, cached := false } = .raise .ibe u :=
  ⟨⟨rfl, rfl, rfl, .inl rfl, by decide +kernel, by decide +kernel⟩, by decide +kernel,
   ⟨rfl, rfl, rfl, .inl rfl, by decide +kernel, by decide +kernel⟩, rfl,
   ⟨rfl, rfl, rfl, .inl rfl, by decide +kernel, by decide +kernel⟩, by decide +kernel, rfl, _, rfl⟩
/-- An instruction line that hits, one that misses, SDRAM, boot ROM and outside it. -/
theorem witness_InstructionFetch : let s := base.setILine (iIndex base.pc) { v := true, ptag := 4 }
    s.canonical = true ∧ (s.iLine (iIndex s.pc)).hit 0x1000 = true ∧ base.canonical = true ∧ (base.iLine (iIndex base.pc)).hit 0x1000 = false ∧
    (base.await .memory).region (foldAddress (lineBase 0x1000)) = .sdram ∧ (base.await .memory).region 0x1FC0_0000 = .rom ∧
    (base.await .memory).region (foldAddress (lineBase 0x1F80_0000)) = .romOutside ∧ ∀ x, base.slot ≠ .delay (some x) :=
  ⟨by decide +kernel, by decide +kernel, by decide +kernel, by decide +kernel, by decide +kernel, by decide +kernel, by decide +kernel,
   fun _ h => nomatch h⟩

/-- The state after reset is canonical, and its step goes on. -/
theorem witness_StepKeepsStateCanonical : State.reset.canonical = true ∧ ∃ t, step State.reset = .next t :=
  ⟨by decide +kernel, _, rfl⟩
theorem witness_StepKeepsRegistersLegal :
    (State.reset.zeroRegister && State.reset.cp0.randomBounded && State.reset.cp0.reservedZero) = true ∧
    ∃ t, step State.reset = .next t := ⟨by decide +kernel, _, rfl⟩

/-- A cold reset requested, with ERL = 0 and with ERL = 1. -/
def resetting (status : Word) : State := withStatus status { base with syscon := { base.syscon with resetRequest := true } }
theorem witness_ColdResetRestartsTheCore : (resetting 0).syscon.resetRequest = true ∧ (resetting 0).erl = false ∧
    (resetting 4).syscon.resetRequest = true ∧ (resetting 4).erl = true := by decide +kernel

/-- An NMI pending, with ERL = 0 and with ERL = 1. -/
def nmi (status : Word) : State := withStatus status { base with nmiPending := true }
theorem witness_NmiEntry : (nmi 0).syscon.resetRequest = false ∧ (nmi 0).power = .fullspeed ∧ (nmi 0).nmiPending = true ∧
    (nmi 0).erl = false ∧ (nmi 4).syscon.resetRequest = false ∧ (nmi 4).power = .fullspeed ∧ (nmi 4).nmiPending = true ∧
    (nmi 4).erl = true := by decide +kernel

theorem witness_ExceptionAddressRegisters : Exc.tlbAddress (.mod 0x0040_1ABC) = some 0x0040_1ABC ∧
    Exc.tlbAddress (.tlbRefill false 0) = some 0 ∧ Exc.tlbAddress (.tlbInvalid true (-1)) = some (-1) ∧
    Exc.errorAddress (.addressError true 1) = some 1 ∧ Exc.tlbAddress .sys = none ∧ Exc.errorAddress .sys = none := by
  decide +kernel

theorem witness_InterruptIsTaken : (usbRequest 0x401).syscon.resetRequest = false ∧ (usbRequest 0x401).power = .fullspeed ∧
    (usbRequest 0x401).nmiPending = false ∧ (usbRequest 0x401).watchPending = false ∧ (usbRequest 0x401).badMode = false ∧
    (usbRequest 0x401).badConfig = false ∧
    (usbRequest 0x401).fetchTarget = .ok { pa := 0x1000, cached := true } (usbRequest 0x401) ∧
    (usbRequest 0x401).interruptEnabled = true :=
  by and_intros <;> rfl

/-- The core in a power mode. -/
def inPower (m : PowerMode) : State := { base with power := m }
theorem witness_StoppedCoreExecutesNothing : (inPower .standby).syscon.resetRequest = false ∧ (inPower .standby).power ≠ .fullspeed ∧
    (inPower .suspend).power ≠ .fullspeed ∧ (inPower .hibernate).syscon.resetRequest = false ∧
    (inPower .hibernate).power = .hibernate := by decide +kernel
/-- Standby with no line asserted, with Int0 asserted and masked, and with an NMI pending (R463). -/
theorem test_wake : (inPower .standby).wake.power = .standby ∧ ({ usbRequest 0 with power := .standby } : State).wake.power = .fullspeed ∧
    ({ nmi 0 with power := .suspend } : State).wake.power = .fullspeed ∧ ({ nmi 0 with power := .hibernate } : State).wake.power = .hibernate :=
  by decide +kernel

theorem witness_ExceptionsArePrecise : exec (.syscall 0) base = .next (base.takeException .sys) ∧ base.exl = false ∧
    (base.takeException .sys).exl = true := ⟨rfl, rfl, rfl⟩

/-- User mode. -/
abbrev user : State := withStatus 0x10 base
/-- An instruction that stays in User mode and one that leaves it. -/
theorem witness_UserModeLeavesByExceptionOnly : (∃ t, exec (.addu 8 4 5) user = .next t ∧ t.mode = .user) ∧
    (∃ t, exec (.mtc0 8 12) user = .next t ∧ t.mode = .kernel) ∧ user.mode = .user ∧ user.cu0 = false :=
  ⟨⟨_, rfl, rfl⟩, ⟨_, rfl, rfl⟩, rfl, rfl⟩

/-- Sums at both ends of the range of a word, and just outside. -/
theorem witness_WordAddTraps :
    let fits (x : Int) : Prop := -2147483648 ≤ x ∧ x < 2147483648
    let s (a b : Dword) := withRegs [(4, a), (5, b)] base
    let sum (s : State) := (s.word 4).toInt + (s.word 5).toInt
    let dif (s : State) := (s.word 4).toInt - (s.word 5).toInt
    let sumI (s : State) (i : Half) := (s.word 4).toInt + i.toInt
    fits (sum (s 0x7FFF_FFFE 1)) ∧ ¬ fits (sum (s 0x7FFF_FFFF 1)) ∧ fits (sum (s 0x8000_0001 0xFFFF_FFFF)) ∧
    ¬ fits (sum (s 0x8000_0000 0xFFFF_FFFF)) ∧ fits (dif (s 0x8000_0001 1)) ∧ ¬ fits (dif (s 0x8000_0000 1)) ∧
    fits (sumI (s 0x7FFF_FFFE 0) 1) ∧ ¬ fits (sumI (s 0x7FFF_FFFF 0) 1) := by decide +kernel

theorem witness_DwordAdd :
    let fits (x : Int) : Prop := -9223372036854775808 ≤ x ∧ x < 9223372036854775808
    let s (a b : Dword) := withRegs [(4, a), (5, b)] base
    let sum (s : State) := (s.getReg 4).toInt + (s.getReg 5).toInt
    let dif (s : State) := (s.getReg 4).toInt - (s.getReg 5).toInt
    let sumI (s : State) (i : Half) := (s.getReg 4).toInt + i.toInt
    (s 0 0).ops64 = true ∧
    fits (sum (s 0x7FFF_FFFF_FFFF_FFFE 1)) ∧ ¬ fits (sum (s 0x7FFF_FFFF_FFFF_FFFF 1)) ∧
    fits (dif (s 0x8000_0000_0000_0001 1)) ∧ ¬ fits (dif (s 0x8000_0000_0000_0000 1)) ∧
    fits (sumI (s 0x8000_0000_0000_0001 0) 0xFFFF) ∧ ¬ fits (sumI (s 0x8000_0000_0000_0000 0) 0xFFFF) := by decide +kernel

/-- 64-bit operations in Kernel mode, and in User mode with UX = 1; the same hypothesis stands in the statements named. -/
theorem witness_DwordShifts : base.ops64 = true ∧ (withStatus 0x30 base).ops64 = true := by decide +kernel
theorem witness_Multiplications : base.ops64 = true := by decide +kernel
theorem witness_DmaccAccumulates : base.ops64 = true := by decide +kernel

theorem witness_Divisions : (withRegs [(5, 0x1_0000_0000)] base).word 5 = 0 ∧ (withRegs [(5, 0x1_0000_0000)] base).getReg 5 ≠ 0 ∧
    (withRegs [(5, 0xFFFF_FFFF)] base).word 5 ≠ 0 ∧ base.getReg 5 = 0 ∧ base.ops64 = true := by decide +kernel

/-- References of every width to the first and the last doubleword of the 4 Mbytes of SDRAM. -/
def atSdram (a : Dword) : State := withRegs [(4, 0xFFFF_FFFF_A000_0000 + a)] base
theorem witness_UncachedLoads :
    RefersToSdram (atSdram 0) false 1 (0xFFFF_FFFF_A000_0000) 0 0 (atSdram 0) ∧
    RefersToSdram (atSdram 0x3F_FFFF) false 1 (0xFFFF_FFFF_A03F_FFFF) 7 0x3F_FFFF (atSdram 0x3F_FFFF) ∧
    RefersToSdram (atSdram 0x3F_FFFE) false 2 (0xFFFF_FFFF_A03F_FFFE) 6 0x3F_FFFE (atSdram 0x3F_FFFE) ∧
    RefersToSdram (atSdram 0x3F_FFFC) false 4 (0xFFFF_FFFF_A03F_FFFC) 4 0x3F_FFFC (atSdram 0x3F_FFFC) ∧
    RefersToSdram (atSdram 0x3F_FFF8) false 8 (0xFFFF_FFFF_A03F_FFF8) 0 0x3F_FFF8 (atSdram 0x3F_FFF8) ∧
    (atSdram 0x3F_FFF8).ops64 = true :=
  by and_intros <;> first | decide +kernel | exact ⟨_, _, rfl, rfl, rfl, by decide +kernel⟩
theorem witness_UncachedLoads_unaligned :
    RefersToSdram (atSdram 0x2003) false 1 (0xFFFF_FFFF_A000_2003) 0 0x2000 (atSdram 0x2003) ∧
    RefersToSdram (atSdram 0x2005) false 1 (0xFFFF_FFFF_A000_2005) 4 0x2004 (atSdram 0x2005) ∧
    RefersToSdram (atSdram 0x2005) false 1 (0xFFFF_FFFF_A000_2005) 5 0x2005 (atSdram 0x2005) ∧
    RefersToSdram (atSdram 0x2007) false 1 (0xFFFF_FFFF_A000_2007) 0 0x2000 (atSdram 0x2007) ∧
    RefersToSdram (atSdram 0x2000) false 1 (0xFFFF_FFFF_A000_2000) 0 0x2000 (atSdram 0x2000) ∧
    (atSdram 0x2005).ops64 = true :=
  by and_intros <;> first | decide +kernel | exact ⟨_, _, rfl, rfl, rfl, by decide +kernel⟩
theorem witness_UncachedStores :
    (atSdram 0x3F_FFF8).memoryCanonical = true ∧ (atSdram 0x3F_FFF8).ops64 = true ∧
    RefersToSdram (atSdram 0x3F_FFFF) true 1 (0xFFFF_FFFF_A03F_FFFF) 7 0x3F_FFFF (atSdram 0x3F_FFFF) ∧
    RefersToSdram (atSdram 0x3F_FFFE) true 2 (0xFFFF_FFFF_A03F_FFFE) 6 0x3F_FFFE (atSdram 0x3F_FFFE) ∧
    RefersToSdram (atSdram 0x3F_FFFC) true 4 (0xFFFF_FFFF_A03F_FFFC) 4 0x3F_FFFC (atSdram 0x3F_FFFC) ∧
    RefersToSdram (atSdram 0x3F_FFF8) true 8 (0xFFFF_FFFF_A03F_FFF8) 0 0x3F_FFF8 (atSdram 0x3F_FFF8) ∧
    RefersToSdram (atSdram 0x2007) true 1 (0xFFFF_FFFF_A000_2007) 4 0x2004 (atSdram 0x2007) ∧
    RefersToSdram (atSdram 0x2007) true 1 (0xFFFF_FFFF_A000_2007) 0 0x2000 (atSdram 0x2007) :=
  by and_intros <;> first | decide +kernel | exact ⟨_, _, rfl, rfl, rfl, by decide +kernel⟩

/-- References of every width that hit the line of 2000H, and one that misses: the line of 2010H is brought in first. -/
theorem witness_CachedLoadsAndStores : inCache.canonical = true ∧ inCache.ops64 = true ∧
    ThroughDataCache inCache false 1 0xFFFF_FFFF_8000_200F inCache ∧ ThroughDataCache inCache false 2 0xFFFF_FFFF_8000_200E inCache ∧
    ThroughDataCache inCache false 4 0xFFFF_FFFF_8000_200C inCache ∧ ThroughDataCache inCache false 8 0xFFFF_FFFF_8000_2008 inCache ∧
    ThroughDataCache inCache true 1 0xFFFF_FFFF_8000_200F inCache ∧ ThroughDataCache inCache true 2 0xFFFF_FFFF_8000_200E inCache ∧
    ThroughDataCache inCache true 4 0xFFFF_FFFF_8000_200C inCache ∧ ThroughDataCache inCache true 8 0xFFFF_FFFF_8000_2008 inCache ∧
    ∃ u, ThroughDataCache inCache false 4 0xFFFF_FFFF_8000_2010 u :=
  by and_intros <;> first | decide +kernel | exact ⟨_, _, rfl, rfl⟩ | exact ⟨_, _, _, rfl, rfl⟩

/-- An invalid line, and a valid clean line of another tag. -/
def otherLine : State := cachedMem.setDLine (dIndex 0xFFFF_FFFF_8000_2000) { dirtyLine with w := false, ptag := 0x3F }
/-- A dirty line of another tag, whose home is 6000H. -/
def dirtyOther : State := cachedMem.setDLine (dIndex 0xFFFF_FFFF_8000_2000) { dirtyLine with ptag := 0x18 }
theorem witness_DataCacheRefills : cachedMem.canonical = true ∧ (cachedMem.dLine (dIndex 0xFFFF_FFFF_8000_2000)).hit 0x2000 = false ∧
    (cachedMem.dLine (dIndex 0xFFFF_FFFF_8000_2000)).v = false ∧ (cachedMem.await .memory).region (foldAddress (lineBase 0x2000)) = .sdram ∧
    otherLine.canonical = true ∧ (otherLine.dLine (dIndex 0xFFFF_FFFF_8000_2000)).hit 0x2000 = false ∧
    (otherLine.dLine (dIndex 0xFFFF_FFFF_8000_2000)).v = true ∧ (otherLine.dLine (dIndex 0xFFFF_FFFF_8000_2000)).w = false ∧
    (otherLine.await .memory).region (foldAddress (lineBase 0x2000)) = .sdram ∧
    inCache.canonical = true ∧ (inCache.dLine (dIndex 0xFFFF_FFFF_8000_2000)).hit 0x2000 = true ∧
    (cachedMem.await .memory).region (foldAddress (lineBase 0x1F80_2000)) = .romOutside := by decide +kernel
/-- The dirty line is written to 6000H before the refill. -/
theorem witness_DataCacheRefills_dirty : let l := dirtyOther.dLine (dIndex 0xFFFF_FFFF_8000_2000)
    dirtyOther.canonical = true ∧ l.hit 0x2000 = false ∧ l.v = true ∧ l.w = true ∧
    foldAddress (writeBackAddress (dIndex 0xFFFF_FFFF_8000_2000) l.ptag) = 0x6000 ∧ dirtyOther.regionAhead 0x6000 = .sdram ∧
    ((dirtyOther.postMemory 0x6000 16 l.data.toNat).await .memory).region (foldAddress (lineBase 0x2000)) = .sdram := by decide +kernel
/-- A state whose r4 holds a cached address outside the boot ROM. -/
def outsideRom : State := withRegs [(4, 0xFFFF_FFFF_9F80_2000)] base
/-- A load and a store, cached, of an address outside the boot ROM. -/
theorem witness_DataCacheRefills_fails : let va := outsideRom.getReg 4 + (0 : Half).signExtend 64
    (∃ t, outsideRom.dataTarget false 4 va = .ok { pa := 0x1F80_2000, cached := true } outsideRom ∧
      outsideRom.fillD va 0x1F80_2000 = .raise .dbe t) ∧
    outsideRom.dataTarget true 4 va = .ok { pa := 0x1F80_2000, cached := true } outsideRom ∧
    Instr.lw 8 4 0 ∈ loadForms outsideRom.ops64 8 4 0 4 ∧ Instr.sw 8 4 0 ∈ storeForms outsideRom.ops64 8 4 0 4 :=
  ⟨⟨_, rfl, rfl⟩, rfl, by decide +kernel, by decide +kernel⟩

/-- One address of every kind: boot ROM, outside it, reserved memory, reserved IBUS, a reserved register of the system controller
(whole and in a doubleword) and of the USB block, S_IMR, U_CMR, E1_MSR, E2_MSR, A_CMR and P_PLBA. -/
theorem witness_UncachedReadsElsewhere : let u (a : PAddr) := base.await (busSide (foldAddress a))
    let r (a : PAddr) := (u a).region (foldAddress a)
    r 0x1FC0_0000 = .rom ∧ r 0x1F80_0000 = .romOutside ∧ r 0x0040_0000 = .memReserved ∧ r 0x1000_5000 = .ibusReserved ∧
    r 0x1000_0128 = .syscon ∧ (u 0x1000_0128).sysconReserved 0x128 = true ∧ (u 0x1000_0124).sysconReserved 0x124 = false ∧
    r 0x1000_1008 = .block .usb ∧ (u 0x1000_1008).blockReserved .usb (blockOffset .usb 0x1000_1008) = true ∧
    r 0x1000_000C = .syscon ∧ r 0x1000_1040 = .block .usb ∧ r 0x1000_223C = .block .eth1 ∧ r 0x1000_323C = .block .eth2 ∧
    r 0x1001_F020 = .block .atm ∧ r 0x1000_4000 = .block .pci ∧ (u 0x1000_4000).syscon.stopped .pci = false := by decide +kernel
theorem witness_UncachedReadsElsewhere_answers :
    base.syscon.read base.board.clksl base.board.endcen 0x00C 0xF = { dev := base.syscon, data := some 0 } ∧
    base.usb.read 0x40 0xF = { dev := base.usb, data := some 0 } ∧ base.eth1.read 0x23C 0xF = { dev := base.eth1, data := some 0 } ∧
    base.eth2.read 0x23C 0xF = { dev := base.eth2, data := some 0 } ∧ base.atm.read 0xF020 0xF = { dev := base.atm, data := some 0 } ∧
    base.pci.read base.board.nic 0x00 0xF = { dev := base.pci, data := some 0 } := by and_intros <;> rfl
/-- Loads that a reserved register and the boot ROM answer. -/
theorem witness_UncachedReadsElsewhere_loads : (∃ t, base.dataTarget false 4 0xFFFF_FFFF_B000_0128 = .ok { pa := 0x1000_0128, cached := false } base ∧
      base.busRead .dbe (inDoubleword 0x1000_0128 0) 4 = .raise .dbe t) ∧
    (∃ t, base.dataTarget false 8 0xFFFF_FFFF_B000_0128 = .ok { pa := 0x1000_0128, cached := false } base ∧
      base.busRead .dbe (inDoubleword 0x1000_0128 0) 8 = .raise .dbe t) ∧
    ∃ d t, base.dataTarget false 4 0xFFFF_FFFF_BFC0_0004 = .ok { pa := 0x1FC0_0004, cached := false } base ∧
      base.busRead .dbe (inDoubleword 0x1FC0_0004 4) 4 = .ok d t := ⟨⟨_, rfl, rfl⟩, ⟨_, rfl, rfl⟩, _, _, rfl, rfl⟩

/-- A store to S_IMR, with room; reserved ranges and registers of each kind for the landing. -/
theorem witness_PostedWrites :
    base.dataTarget true 4 0xFFFF_FFFF_B000_000C = .ok { pa := 0x1000_000C, cached := false } base ∧
    base.regionAhead (foldAddress (inDoubleword 0x1000_000C 4)) ≠ .sdram ∧ base.posted.length < Config.writeBufferEntries + 5 ∧
    base.ops64 = true ∧ base.region 0x0040_0000 = .memReserved ∧ base.region 0x1F80_0000 = .romOutside ∧
    base.region 0x1000_5000 = .ibusReserved ∧ base.region 0x1000_0128 = .syscon ∧ base.sysconReserved 0x128 = true ∧
    base.region 0x1000_000C = .syscon ∧ base.sysconReserved 0x00C = false ∧ base.region 0x1000_1008 = .block .usb ∧
    base.blockReserved .usb 0x008 = true ∧ base.region 0x1000_1040 = .block .usb ∧ base.blockReserved .usb 0x040 = false :=
  ⟨rfl, by decide +kernel⟩

theorem witness_MisalignedReferencesTrap : (0xFFFF_FFFF_8000_2001 : Dword).toNat % 2 ≠ 0 ∧ (0xFFFF_FFFF_8000_2002 : Dword).toNat % 4 ≠ 0 ∧
    (0xFFFF_FFFF_8000_2004 : Dword).toNat % 8 ≠ 0 ∧ base.ops64 = true ∧ base.cop0Usable = true ∧ (0x0040_0000 : Dword).toNat % 4 = 0 ∧
    base.translate false 0x0040_0000 = .raise (.tlbRefill false 0x0040_0000) base := by
  and_intros <;> first | decide +kernel | rfl

/-- WatchLo on the doubleword of 2000H: loads, or stores. -/
def watching (status bits : Word) : State := withStatus status { base with cp0 := { base.cp0 with watchLo := 0x2000 ||| bits } }
theorem witness_WatchException : (0xFFFF_FFFF_A000_2004 : Dword).toNat % 4 = 0 ∧
    (watching 0 2).translate false 0xFFFF_FFFF_A000_2004 = .ok { pa := 0x2004, cached := false } (watching 0 2) ∧
    (watching 0 2).cp0.watchLo.getLsbD 1 = true ∧ (0x2004 : PAddr).toNat / 8 = (watching 0 2).cp0.watchLo.toNat / 8 ∧
    (watching 0 2).exl = false ∧ (watching 0 1).cp0.watchLo.getLsbD 0 = true ∧
    ¬ (0x2008 : PAddr).toNat / 8 = (watching 0 2).cp0.watchLo.toNat / 8 ∧
    (watching 2 2).translate false 0xFFFF_FFFF_A000_2004 = .ok { pa := 0x2004, cached := false } (watching 2 2) ∧
    (watching 2 2).exl = true ∧
    (watching 0 2).dataTarget false 4 0xFFFF_FFFF_A000_2004 = .raise .watch (watching 0 2) ∧
    (watching 0 1).dataTarget true 4 0xFFFF_FFFF_A000_2004 = .raise .watch (watching 0 1) :=
  by and_intros <;> first | rfl | decide +kernel
theorem witness_WatchException_deferred : let s : State := { base with watchPending := true }
    s.syscon.resetRequest = false ∧ s.power = .fullspeed ∧ s.nmiPending = false ∧ s.watchPending = true ∧ s.exl = false := by
  decide +kernel

/-- The modes and addressing widths, and addresses that are and are not sign-extended words. -/
theorem witness_Segments : base.is64bitMode = false ∧ base.mode = .kernel ∧ base.erl = false ∧ (withStatus 4 base).erl = true ∧
    (withStatus 4 base).mode = .kernel ∧ (withStatus 0x08 base).is64bitMode = false ∧ (withStatus 0x08 base).mode = .supervisor ∧
    user.is64bitMode = false ∧ user.mode = .user ∧ (withStatus 0x80 base).is64bitMode = true ∧ (withStatus 0x80 base).mode = .kernel ∧
    (withStatus 0x48 base).is64bitMode = true ∧ (withStatus 0x48 base).mode = .supervisor ∧
    (withStatus 0x30 base).is64bitMode = true ∧ (withStatus 0x30 base).mode = .user ∧
    (0x8000_0000 : Dword) ≠ ((0x8000_0000 : Dword).setWidth 32).signExtend 64 ∧
    (0xFFFF_FFFF_8000_0000 : Dword) = ((0xFFFF_FFFF_8000_0000 : Dword).setWidth 32).signExtend 64 := by decide +kernel

/-- Two entries for the same pages. -/
def twice : State := { mapped 5 with tlb := (mapped 5).tlb.set 7 entry3 }
theorem witness_TlbDecides : ({ base with tlbShutdown := true } : State).tlbShutdown = true ∧
    ((mapped 6).tlbShutdown = false ∧ ∀ i : Fin 32, (mapped 6).tlb[i].hit (mapped 6).is64bitMode (mapped 6).asid 0x0040_0ABC = false) ∧
    ((mapped 5).tlb[(3 : Fin 32)].hit (mapped 5).is64bitMode (mapped 5).asid 0x0040_0ABC = true ∧
      ∀ j : Fin 32, j ≠ 3 → (mapped 5).tlb[j].hit (mapped 5).is64bitMode (mapped 5).asid 0x0040_0ABC = false) ∧
    (twice.tlbShutdown = false ∧ twice.tlb[(3 : Fin 32)].hit twice.is64bitMode twice.asid 0x0040_0ABC = true ∧
      twice.tlb[(7 : Fin 32)].hit twice.is64bitMode twice.asid 0x0040_0ABC = true) := by decide +kernel
/-- Page sizes, an address in the odd page and one in the even page of the largest, and both address widths. -/
theorem witness_TlbDecides_entry : ((0x03 : Byte), 1) ∈ ([(0x00, 0), (0x03, 1), (0x0F, 2), (0x3F, 3), (0xFF, 4)] : List (Byte × Nat)) ∧
    entry3.mask = 0x03 ∧ entry3.hit false 5 0x0040_1ABC = true ∧ entry3.hit true 5 0x0040_1ABC = true ∧
    entry3.hit false 5 0x4000_0000_0040_1ABC = true ∧ entry3.hit true 5 0x4000_0000_0040_1ABC = false ∧
    entry3.pageOf 0x0040_1ABC = entry3.page1 ∧ pageAddress 0xFF 0x0FF 0x0004_0123 = 0x123 := by decide +kernel
/-- In the slot of a taken branch: behind it a cached word, a register, a place outside the boot ROM, an unmapped page, and a page that
two entries map. -/
theorem witness_InstructionFetch_behind : let slot (s : State) (pc : Dword) : State := { s with pc := pc, slot := .delay (some 0x1000) }
    let behind (s : State) (t : Target) : Prop := s.translate false (s.pc + 4) = .ok t s
    (behind (slot base 0xFFFF_FFFF_8000_1000) { pa := 0x1004, cached := true } ∧
      ∃ d u, (slot base 0xFFFF_FFFF_8000_1000).readInstruction 0xFFFF_FFFF_8000_1004 { pa := 0x1004, cached := true } = .ok d u) ∧
    (behind (slot base 0xFFFF_FFFF_B000_0008) { pa := 0x1000_000C, cached := false } ∧
      ∃ d u, (slot base 0xFFFF_FFFF_B000_0008).readInstruction 0xFFFF_FFFF_B000_000C { pa := 0x1000_000C, cached := false } = .ok d u) ∧
    (behind (slot base 0xFFFF_FFFF_BF7F_FFFC) { pa := 0x1F80_0000, cached := false } ∧
      ∃ u, (slot base 0xFFFF_FFFF_BF7F_FFFC).readInstruction 0xFFFF_FFFF_BF80_0000 { pa := 0x1F80_0000, cached := false } = .raise .ibe u) ∧
    (∃ e u, (slot base 0x0040_0000).translate false 0x0040_0004 = .raise e u) ∧
    ∃ e u, (slot twice 0x0040_0AB8).translate false 0x0040_0ABC = .raise e u ∧ u.tlbShutdown = true :=
  ⟨⟨rfl, _, _, rfl⟩, ⟨rfl, _, _, rfl⟩, ⟨rfl, _, rfl⟩, ⟨_, _, rfl⟩, _, _, rfl, rfl⟩
/-- The fetch behind the slot clears S_ISR; one whose page two entries map leaves the TLB alone (R164, log 67). -/
theorem test_fetch_behind_slot :
    ({ base with pc := 0xFFFF_FFFF_B000_0004, slot := .delay (some 0x1000), syscon := sIsr } : State).fetchBehindSlot.syscon.isr = 0 ∧
    ({ twice with pc := 0x0040_0AB8, slot := .delay (some 0x1000) } : State).fetchBehindSlot.tlbShutdown = false := by decide +kernel
theorem witness_TranslationKeepsPageOffset :
    base.translate false 0xFFFF_FFFF_A000_13FF = .ok { pa := 0x13FF, cached := false } base := rfl

theorem witness_Jumps : base.slot = .normal ∧ (31 : Reg) ≠ 4 := by decide +kernel
theorem witness_ConditionalBranches : base.slot = .normal := rfl
theorem witness_LinkingBranches : base.slot = .normal := rfl
theorem witness_ConditionalBranches_cop0 : base.slot = .normal ∧ base.cop0Usable = true ∧ (withStatus 0x0004_0000 base).cop0Usable = true ∧
    (withStatus 0x0004_0000 base).cp0.status.getLsbD 18 = true := by decide +kernel
/-- A taken and an untaken branch pending; an instruction in the slot that completes and one that raises an exception. -/
theorem witness_DelaySlots : ({ base with slot := .delay (some 0x1000) } : State).slot = .delay (some 0x1000) ∧
    ({ base with slot := .delay none } : State).slot = .delay none ∧
    ({ base with slot := .delay none } : State).cop0Usable = true ∧
    (∃ t, exec (.mfc0 8 12) { base with slot := .delay none } = .next t) ∧
    ∃ t, exec (.syscall 0) { base with slot := .delay none } = .next t :=
  ⟨rfl, rfl, by decide +kernel, ⟨_, rfl⟩, _, rfl⟩

/-- Register pairs (4, 5) that meet and miss the conditions of the traps. -/
theorem witness_TrapInstructions :
    let s := withRegs [(4, -1), (5, 0)] base
    let a := s.getReg 4
    let b := s.getReg 5
    b.toInt ≤ b.toInt ∧ ¬ b.toInt ≤ a.toInt ∧ b.toNat ≤ a.toNat ∧ ¬ a.toNat ≤ b.toNat ∧ a.toInt < b.toInt ∧ ¬ b.toInt < b.toInt ∧
    b.toNat < a.toNat ∧ ¬ a.toNat < a.toNat ∧ a = a ∧ ¬ a = b ∧ ((0xFFFF : Half).signExtend 64 : Dword) = a := by decide +kernel

theorem witness_MovesFromCp0 : base.cop0Usable = true ∧ base.ops64 = true ∧ cp0Is64 8 = true ∧ cp0Is64 12 = false ∧
    (withStatus 0x1000_0010 base).cop0Usable = true := by decide +kernel
/-- MTC0, and DMTC0 where 64-bit operations are enabled: in Kernel mode, and in User mode with CU0 = UX = 1. -/
theorem witness_MovesToCp0 : base.cop0Usable = true ∧ base.ops64 = true ∧ (withStatus 0x1000_0030 base).cop0Usable = true ∧
    (withStatus 0x1000_0030 base).ops64 = true ∧ (withStatus 0x1000_0030 base).mode = .user ∧
    (∃ t, exec (.mtc0 8 12) base = .next t ∧ t.cp0.status = 0) ∧ ∃ t, exec (.dmtc0 8 14) (with8 (-1)) = .next t ∧ t.cp0.epc = -1 :=
  ⟨by decide +kernel, by decide +kernel, by decide +kernel, by decide +kernel, by decide +kernel, ⟨_, rfl, by decide +kernel⟩, _, rfl,
   by decide +kernel⟩
theorem witness_TlbWriteThenRead : tlbRegs.cop0Usable = true ∧ pageMaskDefined tlbRegs.cp0.maskField = true ∧
    tlbRegs.cp0.reservedZero = true ∧ (∃ t, exec .tlbwi tlbRegs = .next t) ∧
    pageMaskDefined ((0x0800 : Word).extractLsb' 11 8) = false := ⟨by decide +kernel, by decide +kernel, by decide +kernel, ⟨_, rfl⟩, by decide +kernel⟩
/-- EntryHi with a match in entry 3, and without one. -/
def probing (hi : Dword) : State := withEntry entry3 { base with cp0 := { base.cp0 with entryHi := hi } }
theorem witness_TlbProbe : (probing 0x0040_1005).cop0Usable = true ∧ (probing 0x0040_1005).tlbShutdown = false ∧
    (probing 0x0040_1005).tlb[(3 : Fin 32)].hit (probing 0x0040_1005).is64bitMode (probing 0x0040_1005).asid 0x0040_1005 = true ∧
    (∀ j : Fin 32, j ≠ 3 →
      (probing 0x0040_1005).tlb[j].hit (probing 0x0040_1005).is64bitMode (probing 0x0040_1005).asid 0x0040_1005 = false) ∧
    (probing 0x0040_2005).cop0Usable = true ∧ (probing 0x0040_2005).tlbShutdown = false ∧
    (∀ i : Fin 32,
      (probing 0x0040_2005).tlb[i].hit (probing 0x0040_2005).is64bitMode (probing 0x0040_2005).asid 0x0040_2005 = false) := by
  decide +kernel
theorem witness_ReturnFromException : (returning 0x403).cop0Usable = true ∧ (returning 0x403).slot = .normal ∧
    (returning 0x403).erl = false ∧ (returning 7).erl = true ∧ base.exl = false ∧ base.erl = false ∧ base.slot = .normal := by
  decide +kernel
theorem witness_PowerModeInstructions : base.cop0Usable = true := by decide +kernel
/-- Of six posted writes, four are left in the command buffer when the core stops (R162, R460). -/
theorem test_stop_empties_the_write_buffer : let w : PostedWrite := .single 0x1000_000C 4 1
    nextIs (exec .standby { base with posted := List.replicate 6 w }) (fun t => t.posted.length == 4 && t.power == .standby) = true := by
  decide +kernel

/-- A clean line that hits, an instruction line that hits, and misses of both. -/
def cleanHit : State := (cachedMem.setDLine (dIndex 0xFFFF_FFFF_8000_2000) { dirtyLine with w := false }).setILine
  (iIndex 0xFFFF_FFFF_8000_2000) { v := true, ptag := 8 }
theorem witness_CacheOperationsWithoutBus : let va : Dword := 0xFFFF_FFFF_8000_2004
    base.cop0Usable = true ∧ base.canonical = true ∧ va.toNat % 4 = 0 ∧
    base.translate false va = .ok { pa := 0x2004, cached := true } base ∧ (base.iLine (iIndex va)).hit 0x2004 = false ∧
    (base.dLine (dIndex va)).hit 0x2004 = false ∧ (base.dLine (dIndex va)).v = false ∧
    cleanHit.cop0Usable = true ∧ cleanHit.canonical = true ∧ cleanHit.translate false va = .ok { pa := 0x2004, cached := true } cleanHit ∧
    (cleanHit.iLine (iIndex va)).hit 0x2004 = true ∧ (cleanHit.dLine (dIndex va)).hit 0x2004 = true ∧
    (cleanHit.dLine (dIndex va)).w = false :=
  by and_intros <;> rfl
theorem witness_CacheOperationsOnTheBus : inCache.cop0Usable = true ∧ inCache.canonical = true ∧
    (0xFFFF_FFFF_8000_2004 : Dword).toNat % 4 = 0 ∧
    inCache.translate false 0xFFFF_FFFF_8000_2004 = .ok { pa := 0x2004, cached := true } inCache ∧
    (inCache.dLine (dIndex 0xFFFF_FFFF_8000_2004)).hit 0x2004 = true ∧ (inCache.dLine (dIndex 0xFFFF_FFFF_8000_2004)).v = true ∧
    (inCache.dLine (dIndex 0xFFFF_FFFF_8000_2004)).w = true ∧
    inCache.regionAhead (foldAddress (writeBackAddress (dIndex 0xFFFF_FFFF_8000_2004)
      (inCache.dLine (dIndex 0xFFFF_FFFF_8000_2004)).ptag)) = .sdram :=
  by and_intros <;> rfl
/-- A dirty line that misses; an instruction line that hits; SDRAM behind the address, and an address outside the boot ROM. -/
theorem witness_CacheOperationsOnTheBus_misses : let va : Dword := 0xFFFF_FFFF_8000_2004
    dirtyOther.cop0Usable = true ∧ dirtyOther.canonical = true ∧
    dirtyOther.translate false va = .ok { pa := 0x2004, cached := true } dirtyOther ∧
    (dirtyOther.dLine (dIndex va)).v = true ∧ (dirtyOther.dLine (dIndex va)).w = true ∧ (dirtyOther.dLine (dIndex va)).hit 0x2004 = false ∧
    dirtyOther.regionAhead (foldAddress (writeBackAddress (dIndex va) (dirtyOther.dLine (dIndex va)).ptag)) = .sdram ∧
    (cleanHit.iLine (iIndex va)).hit 0x2004 = true ∧
    cleanHit.regionAhead (foldAddress (writeBackAddress (iIndex va) (cleanHit.iLine (iIndex va)).ptag)) = .sdram ∧
    (cleanHit.await .memory).region (foldAddress (lineBase 0x2004)) = .sdram ∧
    base.translate false 0xFFFF_FFFF_9F80_2004 = .ok { pa := 0x1F80_2004, cached := true } base ∧
    (base.await .memory).region (foldAddress (lineBase 0x1F80_2004)) = .romOutside :=
  by and_intros <;> rfl
theorem witness_ModeChecks : user.mode ≠ .kernel ∧ user.cu0 = false ∧ user.ops64 = false ∧ (withStatus 0x8 base).mode ≠ .kernel ∧
    (withStatus 0x8 base).ops64 = false ∧
    (withStatus 0x1000_0010 base).cop0Usable = true ∧ (withStatus 0x1000_0010 base).ops64 = false := by decide +kernel
/-- Count reaches Compare in three pipeline cycles, and not in two (R39, R1160). -/
theorem test_count_reaches_compare :
    let s : State := { base with board := { base.board with countDiv := 1 }, cp0 := { base.cp0 with count := -1, compare := 2 } }
    (s.countTime 3).cp0.cause.getLsbD 15 = true ∧ (s.countTime 2).cp0.cause.getLsbD 15 = false ∧ (s.countTime 3).cp0.count = 2 ∧
    base.power ≠ .hibernate := by decide +kernel
theorem witness_InterruptSourcesAreCapturedOnEdges : (2 : Nat) ∈ [2, 3, 16, 17] ∧ (17 : Nat) ∈ [2, 3, 16, 17] := by decide

theorem witness_MovesFromCp0_every_register : base.cop0Usable = true ∧ base.ops64 = true := by decide +kernel

/-- A posted store: bus masters read the old byte, the core and, once it has landed, everybody the new one (R163). -/
theorem test_posted_store : let s := base.postMemory 0x2000 4 0x11223344
    s.posted.length = 1 ∧ s.landedByte 0x2000 = 0 ∧ s.mem.byte 0x2000 = 0x44 ∧
    (s.await .memory).landedByte 0x2000 = 0x44 ∧ (s.await .ibus).landedByte 0x2000 = 0 := by decide +kernel

/-- A read of an IBUS target flushes the command buffer; a read of a system controller register only up to the last write of its kind
(R163 3, log 66). -/
theorem test_ibus_read_flushes : let s : State := { base with posted := [.single 0x1000_000C 4 1, .single 0x1000_1040 4 1] }
    (s.await .ibus).posted = [] ∧ (s.await .registers).posted.length = 1 := by decide +kernel

/-- A PCI controller that is bus master and gives access to memory, with the arbiter on. -/
def pciOn : State := { base with
  syscon := { base.syscon with gmr := 2 }, pci := { base.pci with command := 6, bcnt := 0x8000_0000, plba := 0x1000_0000 } }
/-- A bus master's delayed read is answered with 'retry' first, and then given the data; in between they can be discarded: PFDSC, which
nothing else sets (R949, R976). -/
theorem test_delayed_read : let l := [0x1010_0000, 0x1010_0001, 0x1010_0002, 0x1010_0003]
    let s := (pciOn.readForMaster l).2
    (pciOn.readForMaster l).1 = none ∧ (s.readForMaster l).1.isSome = true ∧ (s.readForMaster l).2.pci.readAhead = none ∧
    (s.pciEvent .readDiscarded).pci.pgsr.getLsbD 3 = true ∧ (pciOn.pciEvent .readDiscarded).pci.pgsr.getLsbD 3 = false := by decide +kernel
/-- The same for a delayed read of a PCI master: IFDSC, also once memory access enable has been cleared (R955, R976). -/
theorem test_prefetch_discarded : let s := pciOn.windowReadBy 0x2000 0xF .memRead
    (s.pciEvent .prefetchDiscarded).pci.igsr.getLsbD 4 = true ∧
    (State.pciEvent { s with pci := { s.pci with command := 4 } } .prefetchDiscarded).pci.igsr.getLsbD 4 = true ∧ (pciOn.pciEvent .prefetchDiscarded).pci.igsr.getLsbD 4 = false ∧
    ((s.windowReadBy 0x2000 0xF .memRead).pciEvent .prefetchDiscarded).pci.igsr.getLsbD 4 = false := by decide +kernel

/-- The broadcast address is not counted as a multicast address; the address and the type of a pause frame (R768, log 57). -/
theorem test_destinations : let pause : List Byte :=
      [0x01, 0x80, 0xC2, 0x00, 0x00, 0x01, 0x00, 0x00, 0x4C, 0x00, 0x00, 0x01, 0x88, 0x08, 0x00, 0x01]
    isBroadcast (List.replicate 64 0xFF) = true ∧ isMulticast (List.replicate 64 0xFF) = false ∧
    isBroadcast pause = false ∧ isMulticast pause = true ∧ isControl pause = true ∧ isPause pause = true := by decide +kernel

/-- Indirect_Access of the last word of the work RAM (R641): bytes 0 and 1 of the word are written; the word is read into A_CER. -/
def indirect (cmd : Word) : Atm :=
  let a : Atm := { started := true, loaded := true, cmr := 0x8000_0000 ||| cmd, cerLatch := 0xAABB_CCDD, workRam := [(0xFFF, 0x1122_3344)] }
  ((a.event false true true (.command 0 0)).next base.port).1
theorem test_indirect_access : (indirect 0x0380_3FFC).workRam = [(0xFFF, 0x1122_CCDD)] ∧ (indirect 0x0380_3FFC).busy = false ∧
    (indirect 0x1080_3FFC).cer = 0x1122_3344 ∧ (indirect 0x1080_3FFC).busy = false := by decide +kernel

/-- With bus master enable = 0 no configuration cycle appears on the PCI bus (R932, R965). -/
theorem test_config_needs_master : let p : Pci := { pcar := 0x8000_0000 }
    let on := { p with command := 4 }
    (p.readPcdr false 0xF).data = none ∧ (p.readPcdr false 0xF).dev.issued = [] ∧ (p.writePcdr false 0xF 5).issued = [] ∧
    (p.writePcdr false 0xF 5).pcdr = 5 ∧ (on.readPcdr false 0xF).dev.issued.length = 1 ∧
    (on.writePcdr false 0xF 5).issued.length = 1 := by decide +kernel

/-- A SAR FIFO takes four cells (R601); a cell overtakes one whose PHY is not ready (R602 b); in loopback the oldest comes back (R606). -/
theorem test_sar_fifo : let a : Atm := { gmr := 3, txFifo := [{ phy := 1, header := 0x10 }, { phy := 2, header := 0x20 }] }
    let cell : AtmCell := { header := 0x30 }
    ((((a.arrive cell).arrive cell).arrive cell).arrive cell).rxFifo.length = 4 ∧
    (((((a.arrive cell).arrive cell).arrive cell).arrive cell).arrive cell).rxFifo.length = 4 ∧
    (a.arrive {}).rxFifo = [] ∧ ((a.depart 2 0).sent.map AtmCell.header) = [0x20] ∧
    ((a.depart 2 0).txFifo.map AtmCell.header) = [0x10] ∧ (a.depart 3 0).txFifo.length = 2 ∧
    ((Atm.depart 2 7 { a with gmr := 0x4003 }).rxFifo.map AtmCell.header) = [0x10] := by decide +kernel

/-- IBUS clocks in 4 CPU clocks: 4 at 66 MHz, two thirds of them at 100 MHz, with the rest carried over (R572). -/
theorem test_ibus_clocks : State.ibusClocks { base with board := { base.board with clksl := true } } 4 = (4, 0) ∧
    State.ibusClocks { base with board := { base.board with clksl := false } } 4 = (2, 2) ∧
    State.ibusClocks { base with board := { base.board with clksl := false }, ibusPre := 2 } 4 = (3, 1) := by decide +kernel

/-- An alignment error does not keep a short frame with a valid FCS from counting in En_RUND (R706). -/
theorem test_short_frame_counts (e : Eth) (f : List Byte) (w : EthWireStatus) (h : f.length < 64) (v : fcsError f = false) :
    (12, 1) ∈ e.rxCounts f w := by
  have short : (12, 1) ∈ countIf (decide (f.length < 64) && !fcsError f) 12 := by
    rw [decide_eq_true h, v]; exact List.mem_singleton.mpr rfl
  unfold Eth.rxCounts
  simp only [List.mem_append, short, true_or, or_true]

/-- On the way to the last descriptor of an aborted frame OWN of each descriptor is set before the pointer advances (R751). -/
theorem test_abort_sets_own : let b : DmaBuffer := { desc := 0x1000, word := 0x4000_0010, addr := 0x2000, left := 4 }
    let e : Eth := { txBuf := some b, txAbort := some (0, 0), txdpr := 0x1000 }
    ((e.txDma 1).next base.port).2 = wordAt 0x1000 0x6000_0010 ∧ ((e.txDma 1).next base.port).1.txdpr = 0x1000 := by decide +kernel

/-- An underrun behind a Null link pointer that has stopped the transmit DMA before the last descriptor sets TABR and UR (R763). -/
theorem test_abort_behind_null : let b : DmaBuffer := { desc := 0x1000, word := 0x4000_0010, addr := 0x2000, left := 0, passed := true }
    let e : Eth := { txBuf := some b, txHalted := true, txData := [1, 2], txOut := 2, txUnderran := true }
    ((e.txDone {}).next base.port).1.isr = 0x1800 ∧ ((e.txDone {}).next base.port).1.txBuf = none := by decide +kernel

/-- A cached store outside the boot ROM's configured size: the refill reports an error, and the store raises DBE (R130, R145, log 64). -/
theorem test_cached_store_dbe :
    (match exec (.sw 8 4 0) outsideRom with
      | .next t => t.pc == 0xFFFF_FFFF_8000_0180 && t.cp0.epc == outsideRom.pc && t.syscon.nsr.getLsbD 3
      | _ => false) = true := by decide +kernel

/-- The words of an unaligned transfer that is split lie at word addresses, by which Memory Write and Invalidate is chosen (R945, R946). -/
theorem test_pci_unaligned_split : let p : Pci := { command := 0x14, cacheLine := 16 }
    (pciAccesses 1 p.writeCommand 0x101 [0xE, 0xF] [0, 0]).map PciAccess.addr = [0x101, 0x104] ∧
    (pciAccesses 16 p.writeCommand 0x1 (List.replicate 32 0xF) []).map PciAccess.command = [.memWrite, .memWriteInvalidate] := by
  decide +kernel

/-- Pool 0 with three directories left, the first one at `dir` with one descriptor. -/
def poolAt (dir : Word) : AtmAct := { atm := {}, work := [(poolWord 0 0, 0x0001_0003), (poolWord 0 1, dir)] }
/-- What follows a directory that ends in a null link, or in one that cannot be read, is no directory (R681, log 78). -/
theorem test_atm_null_directory : [0x2000, 0x003F_FFF8].all (fun dir =>
    match (poolAt dir).allocate base.port 0 with
    | .done (some (d, x)) => d == dir && x.isEmpty 0 && x.remaining 0 == 2
    | _ => false) = true := by decide +kernel
/-- A descriptor that cannot be read is not used (R681, log 78). -/
theorem test_atm_lost_descriptor :
    (match AtmAct.nextBuffer base.port 0 2 { addr := 0, left := 0, next := 0x0040_0000 } (poolAt 0) with
      | .done none => true
      | _ => false) = true := by decide +kernel

end Sys2Proof.Tests
end

section
/-! PROOFS. Bit fields: the bits of a merge, of a single bit set, and of a field of either. -/
namespace Sys2Proof.Machine

variable {w : Nat}

/-- A merge takes each bit from the side that the mask names. -/
@[simp] theorem getLsbD_merge (m old new : BitVec w) (i : Nat) :
    (merge m old new).getLsbD i = if m.getLsbD i then new.getLsbD i else old.getLsbD i := by
  by_cases hi : i < w
  · cases hm : m.getLsbD i <;>
      simp only [merge, BitVec.getLsbD_or, BitVec.getLsbD_and, BitVec.getLsbD_not, hm, hi] <;> simp
  · simp [BitVec.getLsbD_of_ge _ _ (Nat.le_of_not_lt hi)]

/-- Setting bit `i` leaves the others alone. -/
theorem getLsbD_setBit (v : BitVec w) {i : Nat} (hi : i < w) (b : Bool) (j : Nat) :
    (setBit v i b).getLsbD j = if j = i then b else v.getLsbD j := by
  rw [setBit, getLsbD_merge, BitVec.getLsbD_twoPow]
  by_cases h : j = i
  · subst h; cases b <;> simp [hi]
  · simp [h, Ne.symm h]

/-- A field that the mask covers comes from the new value. -/
theorem extractLsb'_merge_new {m : BitVec w} {k n : Nat} (h : m.extractLsb' k n = BitVec.allOnes n) (old new : BitVec w) :
    (merge m old new).extractLsb' k n = new.extractLsb' k n := by
  apply BitVec.eq_of_getLsbD_eq
  intro i hi
  have hm : m.getLsbD (k + i) = true := by
    simpa [BitVec.getLsbD_extractLsb', hi] using congrArg (·.getLsbD i) h
  simp [BitVec.getLsbD_extractLsb', hm]

/-- A field that the mask leaves out keeps its value. -/
theorem extractLsb'_merge_old {m : BitVec w} {k n : Nat} (h : m.extractLsb' k n = 0) (old new : BitVec w) :
    (merge m old new).extractLsb' k n = old.extractLsb' k n := by
  apply BitVec.eq_of_getLsbD_eq
  intro i hi
  have hm : m.getLsbD (k + i) = false := by
    simpa [BitVec.getLsbD_extractLsb', hi] using congrArg (·.getLsbD i) h
  simp [BitVec.getLsbD_extractLsb', hm]

/-- A field beside bit `i` keeps its value when that bit is set. -/
theorem extractLsb'_setBit {v : BitVec w} {i : Nat} (hi : i < w) (b : Bool) {k n : Nat} (h : i < k ∨ k + n ≤ i) :
    (setBit v i b).extractLsb' k n = v.extractLsb' k n := by
  apply BitVec.eq_of_getLsbD_eq
  intro j hj
  simp only [BitVec.getLsbD_extractLsb', getLsbD_setBit v hi, show k + j ≠ i by omega, if_false]

/-! ### Fields shifted into place -/

/-- A field of `n` bits that has been shifted to bit `k` stands there. -/
theorem extractLsb'_field {n k : Nat} (h : k + n ≤ w) (v : BitVec n) : (v.zeroExtend w <<< k).extractLsb' k n = v := by
  apply BitVec.eq_of_getLsbD_eq
  intro i hi
  simp only [BitVec.truncate_eq_setWidth, BitVec.getLsbD_extractLsb', BitVec.getLsbD_shiftLeft, BitVec.getLsbD_setWidth]
  simp [hi, show k + i < w by omega, show i < w by omega]

/-- A field that has been shifted to bit `k` leaves the bits beside it 0. -/
theorem extractLsb'_field_beside {n k j m : Nat} (h : j + m ≤ k ∨ k + n ≤ j) (v : BitVec n) :
    (v.zeroExtend w <<< k).extractLsb' j m = 0 := by
  apply BitVec.eq_of_getLsbD_eq
  intro i hi
  simp only [BitVec.truncate_eq_setWidth, BitVec.getLsbD_extractLsb', BitVec.getLsbD_shiftLeft, BitVec.getLsbD_setWidth]
  by_cases hk : j + i < k
  · simp [hk]
  · simp [BitVec.getLsbD_of_ge v (j + i - k) (by omega)]

/-- A field of a value cut to a mask that covers it. -/
theorem extractLsb'_and_of_allOnes {k n : Nat} {m : BitVec w} (h : m.extractLsb' k n = BitVec.allOnes n) (v : BitVec w) :
    (v &&& m).extractLsb' k n = v.extractLsb' k n := by
  rw [BitVec.extractLsb'_and, h, BitVec.and_allOnes]

/-- A field of a value cut to a mask that leaves it out. -/
theorem extractLsb'_and_of_zero {k n : Nat} {m : BitVec w} (h : m.extractLsb' k n = 0) (v : BitVec w) :
    (v &&& m).extractLsb' k n = 0 := by
  rw [BitVec.extractLsb'_and, h]; exact BitVec.and_zero

/-- The field at bit `k` of a value shifted right by `d` is the field at bit `d + k` of the value. -/
theorem extractLsb'_ushiftRight (v : BitVec w) (d k n : Nat) :
    (v >>> d).extractLsb' k n = v.extractLsb' (d + k) n := by
  apply BitVec.eq_of_getLsbD_eq
  intro i hi
  simp only [BitVec.getLsbD_extractLsb', BitVec.getLsbD_ushiftRight, Nat.add_assoc]

/-- A field cut out and put back. -/
theorem field_extractLsb' (v : BitVec w) (k n : Nat) :
    (v.extractLsb' k n).zeroExtend w <<< k = v &&& (BitVec.allOnes n).zeroExtend w <<< k := by
  apply BitVec.eq_of_getLsbD_eq
  intro i hi
  simp only [BitVec.truncate_eq_setWidth, BitVec.getLsbD_and, BitVec.getLsbD_shiftLeft, BitVec.getLsbD_setWidth,
    BitVec.getLsbD_extractLsb', BitVec.getLsbD_allOnes]
  by_cases h : i < k
  · simp [h]
  · simp [h, hi, show i - k < w by omega, Nat.add_sub_cancel' (Nat.le_of_not_lt h), Bool.and_comm]

/-- The bits of a flag's mask. -/
theorem getLsbD_ite_zero (c : Bool) (m : BitVec w) (n : Nat) : (if c then m else 0).getLsbD n = (c && m.getLsbD n) := by
  cases c <;> simp

/-! ### Reserved bits -/

/-- Reserved bits stay 0 in a merge whose mask does not name them. -/
theorem merge_and_eq_zero {m r old : BitVec w} (hm : m &&& r = 0) (h : old &&& r = 0) (new : BitVec w) :
    merge m old new &&& r = 0 := by
  apply BitVec.eq_of_getLsbD_eq
  intro i hi
  have hm := congrArg (·.getLsbD i) hm
  have h := congrArg (·.getLsbD i) h
  simp only [BitVec.getLsbD_and, getLsbD_merge, BitVec.ofNat_eq_ofNat, BitVec.getLsbD_zero] at *
  cases hb : m.getLsbD i <;> simp_all only [Bool.true_and, Bool.and_false, Bool.false_eq_true, if_true, if_false]

theorem setBit_and_eq_zero {r v : BitVec w} {i : Nat} (hi : BitVec.twoPow w i &&& r = 0) (h : v &&& r = 0) (b : Bool) :
    setBit v i b &&& r = 0 := merge_and_eq_zero hi h _

/-- Reserved bits are 0 in a value cut to a mask that does not name them. -/
theorem and_and_eq_zero {m r : BitVec w} (hm : m &&& r = 0) (v : BitVec w) : v &&& m &&& r = 0 := by
  rw [BitVec.and_assoc, hm]; exact BitVec.and_zero

theorem or_and_eq_zero {r x y : BitVec w} (hx : x &&& r = 0) (hy : y &&& r = 0) : (x ||| y) &&& r = 0 := by
  rw [BitVec.and_or_distrib_right, hx, hy]; exact BitVec.or_zero

/-- A field of `n` bits, shifted into place, is clear of the reserved bits that lie beside it. -/
theorem field_and_eq_zero {r : BitVec w} {n k : Nat} (hr : r.extractLsb' k n = 0) (v : BitVec n) :
    v.zeroExtend w <<< k &&& r = 0 := by
  apply BitVec.eq_of_getLsbD_eq
  intro i hi
  by_cases h : k ≤ i ∧ i - k < n
  · have := congrArg (·.getLsbD (i - k)) hr
    simp only [BitVec.getLsbD_extractLsb', BitVec.ofNat_eq_ofNat, BitVec.getLsbD_zero, h.2, decide_true, Bool.true_and,
      Nat.add_sub_cancel' h.1] at this
    simp [this]
  · simp only [BitVec.truncate_eq_setWidth, BitVec.getLsbD_and, BitVec.getLsbD_shiftLeft, BitVec.getLsbD_setWidth]
    by_cases hk : k ≤ i
    · simp [BitVec.getLsbD_of_ge v (i - k) (by omega)]
    · simp [Nat.lt_of_not_le hk]

/-- A value without reserved bits is what a mask of the other bits leaves of it. -/
theorem and_eq_self_of_reserved {v r m : BitVec w} (hv : v &&& r = 0) (hm : ~~~m &&& ~~~r = 0) : v &&& m = v := by
  apply BitVec.eq_of_getLsbD_eq
  intro i hi
  have hv := congrArg (·.getLsbD i) hv
  have hm := congrArg (·.getLsbD i) hm
  simp only [BitVec.getLsbD_and, BitVec.getLsbD_not, hi, decide_true, Bool.true_and, BitVec.ofNat_eq_ofNat,
    BitVec.getLsbD_zero] at *
  cases hb : v.getLsbD i <;> simp_all

end Sys2Proof.Machine
end

section
/-! PROOFS. The invariants of a step: the sparse maps stay canonical and the registers stay legal. Every shared operation keeps
both, hence every instruction, hence every step. -/
namespace Sys2Proof.Machine

/-! ### Legal registers -/

/-- The CP0 registers are legal: Random is between Wired and 31, and the reserved bits are 0 (`Cp0.randomBounded` and
`Cp0.reservedZero`, bit by bit). -/
structure Cp0.Legal (p : Cp0) : Prop where
  random : p.wired ≤ p.random
  index : p.index &&& 0x7FFF_FFE0 = 0
  entryLo0 : p.entryLo0 &&& 0xFFFF_FFFF_F000_0000 = 0
  entryLo1 : p.entryLo1 &&& 0xFFFF_FFFF_F000_0000 = 0
  context : p.context &&& 0xF = 0
  pageMask : p.pageMask &&& 0xFFF8_07FF = 0
  entryHi : p.entryHi &&& 0x3FFF_FF00_0000_0700 = 0
  status : p.status &&& 0xED28_0000 = 0
  cause : p.cause &&& 0x4FFF_7C83 = 0
  config : p.config &&& 0xF07F_FFD8 = 0
  watchLo : p.watchLo &&& 0x4 = 0
  xcontext : p.xcontext &&& 0xF = 0
  perr : p.perr &&& 0xFFFF_FF00 = 0
  tagLo : p.tagLo &&& 0x7F = 0

theorem Cp0.legal_iff (p : Cp0) : (p.randomBounded && p.reservedZero) = true ↔ p.Legal := by
  simp only [Cp0.randomBounded, Cp0.reservedZero, Bool.and_eq_true, decide_eq_true_eq, beq_iff_eq, and_assoc]
  constructor
  all_goals
    rintro ⟨random, index, lo0, lo1, context, pageMask, entryHi, status, cause, config, watchLo, xcontext, perr, tagLo⟩
    exact ⟨random, index, lo0, lo1, context, pageMask, entryHi, status, cause, config, watchLo, xcontext, perr, tagLo⟩

/-- The registers of the core are legal: general register 0 holds 0, and the CP0 registers are legal. -/
structure State.Legal (s : State) : Prop where
  zero : s.gpr[0] = 0
  cp0 : s.cp0.Legal

theorem State.legal_iff (s : State) :
    (s.zeroRegister && s.cp0.randomBounded && s.cp0.reservedZero) = true ↔ s.Legal := by
  rw [Bool.and_assoc, Bool.and_eq_true, Cp0.legal_iff, State.zeroRegister, beq_iff_eq]
  exact ⟨fun ⟨zero, cp0⟩ => ⟨zero, cp0⟩, fun ⟨zero, cp0⟩ => ⟨zero, cp0⟩⟩

/-! ### Operations on the CP0 registers -/

/-- Random moves down to Wired, and from there to 31 (R31). -/
theorem Cp0.Legal.nextRandom {p : Cp0} (h : p.Legal) : ({ p with random := p.nextRandom } : Cp0).Legal := by
  refine { h with random := ?_ }
  have := h.random
  unfold Cp0.nextRandom
  dsimp only
  split <;> bv_omega

theorem Cp0.Legal.setAddressFields {p : Cp0} (h : p.Legal) (c x hi : Dword) : (p.setAddressFields c x hi).Legal :=
  { h with
    context := merge_and_eq_zero (by decide) h.context c
    xcontext := merge_and_eq_zero (by decide) h.xcontext x
    entryHi := merge_and_eq_zero (by decide) h.entryHi hi }

theorem Cp0.Legal.saveAddress {p : Cp0} (h : p.Legal) (e : Exc) (n : Nat) : (p.saveAddress e n).Legal := by
  have lows {q : Cp0} (hq : q.Legal) (va : Dword) : ({ q with
      badVAddr := va
      entryLo0 := Config.freeValue (n + 1) &&& 0x0FFF_FFFF
      entryLo1 := Config.freeValue (n + 2) &&& 0x0FFF_FFFF } : Cp0).Legal :=
    { hq with entryLo0 := and_and_eq_zero (by decide) _, entryLo1 := and_and_eq_zero (by decide) _ }
  unfold Cp0.saveAddress
  split
  · exact lows (h.setAddressFields _ _ _) _
  · exact lows (h.setAddressFields _ _ _) _
  · exact h

/-- A move to CP0 writes no reserved bit. -/
theorem Cp0.Legal.write {p : Cp0} (h : p.Legal) (n : Reg) (v : Dword) : (p.write n v).Legal := by
  unfold Cp0.write
  dsimp only
  split
  next => exact { h with index := merge_and_eq_zero (by decide) h.index _ }
  next => exact { h with entryLo0 := and_and_eq_zero (by decide) _ }
  next => exact { h with entryLo1 := and_and_eq_zero (by decide) _ }
  next => exact { h with context := merge_and_eq_zero (by decide) h.context _ }
  next => exact { h with pageMask := and_and_eq_zero (by decide) _ }
  next => exact { h with random := by bv_omega }
  next => exact { h with }
  next => exact { h with entryHi := and_and_eq_zero (by decide) _ }
  next => exact { h with cause := setBit_and_eq_zero (by decide) h.cause _ }
  next => exact { h with status := and_and_eq_zero (by decide) _ }
  next => exact { h with cause := merge_and_eq_zero (by decide) h.cause _ }
  next => exact { h with }
  next => exact { h with config := and_and_eq_zero (by decide) _ }
  next => exact { h with }
  next => exact { h with watchLo := and_and_eq_zero (by decide) _ }
  next => exact { h with xcontext := merge_and_eq_zero (by decide) h.xcontext _ }
  next => exact { h with perr := and_and_eq_zero (by decide) _ }
  next => exact { h with tagLo := and_and_eq_zero (by decide) _ }
  next => exact { h with }
  next => exact h

theorem TlbPage.entryLo_and (p : TlbPage) (g : Bool) : p.entryLo g &&& 0xFFFF_FFFF_F000_0000 = 0 := by
  refine or_and_eq_zero (or_and_eq_zero (or_and_eq_zero (or_and_eq_zero ?_ ?_) ?_) ?_) ?_
  · exact field_and_eq_zero (by decide) _
  · exact field_and_eq_zero (by decide) _
  all_goals split <;> decide

theorem TlbEntry.entryHi_and (e : TlbEntry) : e.entryHi &&& 0x3FFF_FF00_0000_0700 = 0 := by
  refine or_and_eq_zero (or_and_eq_zero ?_ ?_) ?_
  · exact field_and_eq_zero (by decide) _
  · exact field_and_eq_zero (by decide) _
  · simpa using field_and_eq_zero (r := 0x3FFF_FF00_0000_0700#64) (k := 0) (by decide) e.asid

/-- TLBR loads no reserved bit. -/
theorem Cp0.Legal.loadEntry {p : Cp0} (h : p.Legal) (e : TlbEntry) : (p.loadEntry e).Legal :=
  { h with
    pageMask := field_and_eq_zero (by decide) _
    entryHi := e.entryHi_and
    entryLo0 := e.page0.entryLo_and _
    entryLo1 := e.page1.entryLo_and _ }

/-- The bits below PTag in TagLo. -/
theorem ptag_append_and_low (ptag : BitVec 22) : (ptag ++ (0 : BitVec 10) : BitVec 32) &&& 0x7F = 0 := by
  apply BitVec.eq_of_getLsbD_eq
  intro i hi
  simp only [BitVec.getLsbD_and, BitVec.getLsbD_append]
  interval_cases i <;> simp

/-- Index_Load_Tag loads no reserved bit. -/
theorem ILine.tagLo_and (l : ILine) : l.tagLo &&& 0x7F = 0 :=
  or_and_eq_zero (ptag_append_and_low _) (by split <;> decide)

theorem DLine.tagLo_and (l : DLine) : l.tagLo &&& 0x7F = 0 := by
  refine or_and_eq_zero (or_and_eq_zero (or_and_eq_zero (ptag_append_and_low _) ?_) ?_) ?_
  all_goals split <;> decide

/-! ### Keeping the invariants -/

/-- `t` is well kept if `s` is: its sparse maps are canonical and its registers legal. -/
structure State.Keeps (s t : State) : Prop where
  canonical : s.canonical = true → t.canonical = true
  legal : s.Legal → t.Legal

/-- The state in which an instruction or a step ends, if it ends in one, satisfies `p`. -/
def OutHolds (p : State → Prop) (o : Out) : Prop := ∀ t, o = .next t → p t

theorem OutHolds.next {p : State → Prop} {t : State} (h : p t) : OutHolds p (.next t) := by
  rintro _ ⟨⟩; exact h

theorem OutHolds.fault {p : State → Prop} (f : Fault) : OutHolds p (.fault f) := by
  rintro _ ⟨⟩

theorem OutHolds.mono {p q : State → Prop} {o : Out} (h : OutHolds p o) (hpq : ∀ t, p t → q t) : OutHolds q o :=
  fun t ht => hpq t (h t ht)

variable {s t u : State}

theorem State.Keeps.refl (s : State) : s.Keeps s := ⟨id, id⟩

theorem State.Keeps.trans (h : s.Keeps t) (k : t.Keeps u) : s.Keeps u :=
  ⟨k.canonical ∘ h.canonical, k.legal ∘ h.legal⟩

/-- Go on from a state that is well kept. -/
theorem State.Keeps.out {o : Out} (h : s.Keeps t) (k : OutHolds t.Keeps o) : OutHolds s.Keeps o := k.mono fun _ => h.trans

theorem State.Evolves.keeps (h : s.Evolves t) : s.Keeps t where
  canonical := h.canonical
  legal l := { zero := by rw [h.gpr]; exact l.zero, cp0 := by rw [h.cp0]; exact l.cp0 }

/-- A state that differs outside the sparse maps is as canonical. -/
theorem State.canonical_congr (hm : t.mem = s.mem) (hd : t.dcache = s.dcache) (hi : t.icache = s.icache) (ha : t.atm = s.atm)
    (c : s.canonical = true) : t.canonical = true := by
  rw [State.canonical_iff] at *; rw [hm, hd, hi, ha]; exact c

theorem State.keeps_cp0 (s : State) {p : Cp0} (h : s.cp0.Legal → p.Legal) : s.Keeps { s with cp0 := p } where
  canonical := State.canonical_congr rfl rfl rfl rfl
  legal l := ⟨l.zero, h l.cp0⟩

/-- Register 0 is never written. -/
theorem State.keeps_setReg (s : State) (r : Reg) (v : Dword) : s.Keeps (s.setReg r v) where
  canonical := State.canonical_congr (by simp) (by simp) (by simp) (by simp)
  legal l := by
    refine ⟨?_, by simpa using l.cp0⟩
    by_cases hr : r = 0
    · rw [hr]; exact l.zero
    · rw [State.setReg_ne_zero s hr]
      have : r.toNat ≠ 0 := fun e => hr (BitVec.eq_of_toNat_eq e)
      exact (Vector.getElem_set_ne r.isLt (by decide) this).trans l.zero

theorem State.keeps_stepRandom (s : State) : s.Keeps s.stepRandom := s.keeps_cp0 Cp0.Legal.nextRandom

theorem State.keeps_advance (s : State) : s.Keeps s.advance := ⟨State.canonical_congr rfl rfl rfl rfl, fun l => ⟨l.zero, l.cp0⟩⟩

theorem State.keeps_retire (s : State) : s.Keeps s.retire := s.keeps_stepRandom.trans (State.keeps_advance _)

theorem State.keeps_draw (s : State) : s.Keeps s.draw.2 := s.evolves_draw.keeps

theorem State.keeps_hilo (s : State) (hi lo : Dword) : s.Keeps { s with hi := hi, lo := lo } :=
  ⟨State.canonical_congr rfl rfl rfl rfl, fun l => ⟨l.zero, l.cp0⟩⟩

theorem State.saveRestart_legal {s : State} (h : s.cp0.Legal) : s.saveRestart.Legal := by
  unfold State.saveRestart
  split
  · exact h
  · exact { h with cause := setBit_and_eq_zero (by decide) h.cause _ }

/-- Exception entry writes no reserved bit. -/
theorem State.keeps_takeException (s : State) (e : Exc) : s.Keeps (s.takeException e) where
  canonical := State.canonical_congr rfl rfl rfl rfl
  legal l :=
    have h := (State.saveRestart_legal l.cp0).saveAddress e s.free
    { zero := l.zero
      cp0 := { h with
        status := or_and_eq_zero h.status (by decide)
        cause := merge_and_eq_zero (by decide) h.cause _ } }

theorem State.keeps_takeNmi (s : State) : s.Keeps s.takeNmi where
  canonical := State.canonical_congr rfl rfl rfl rfl
  legal l := { zero := l.zero, cp0 := { l.cp0 with status := or_and_eq_zero l.cp0.status (by decide) } }

theorem State.legal_reset : State.reset.Legal := (State.legal_iff _).mp (by decide)

/-- A cold reset keeps the sparse maps, and gives the registers their legal reset values. -/
theorem State.keeps_coldReset (s : State) : s.Keeps s.coldReset where
  canonical c := by rw [State.canonical_iff] at *; exact c
  legal _ := { zero := State.legal_reset.zero, cp0 := { State.legal_reset.cp0 with } }

theorem State.keeps_returnFromException (s : State) : s.Keeps s.returnFromException where
  canonical := State.canonical_congr (by simp) (by simp) (by simp) (by simp)
  legal l := by
    unfold State.returnFromException
    split
    · exact ⟨l.zero, { l.cp0 with status := setBit_and_eq_zero (by decide) l.cp0.status _ }⟩
    · exact ⟨l.zero, { l.cp0 with status := setBit_and_eq_zero (by decide) l.cp0.status _ }⟩

/-- What happens between two instructions keeps the invariants. -/
theorem State.Settled.keeps (h : s.Settled t) : s.Keeps t where
  canonical := h.canonical
  legal l := by
    refine ⟨by rw [h.gpr]; exact l.zero, ?_⟩
    have cause : t.cp0.cause &&& 0x4FFF_7C83 = 0 := by
      rcases h.cause with e | e <;> rw [e]
      · exact l.cp0.cause
      · exact setBit_and_eq_zero (by decide) l.cp0.cause _
    rw [h.cp0]
    exact { l.cp0 with cause := cause }

end Sys2Proof.Machine
end

section
/-! PROOFS. Every instruction keeps the invariants: one lemma for each operation that the meanings end in, then one case for each
constructor. -/
namespace Sys2Proof.Machine

variable (s : State)

/-! ### The operations that instructions end in -/

theorem State.trap_keeps (e : Exc) : OutHolds s.Keeps (s.trap e) := .next (s.keeps_takeException e)

theorem State.need64_keeps {k : State → Out} (h : OutHolds s.Keeps (k s)) : OutHolds s.Keeps (s.need64 k) := by
  unfold State.need64
  split
  · exact h
  · exact s.trap_keeps _

theorem State.needCop0_keeps {k : State → Out} (h : OutHolds s.Keeps (k s)) : OutHolds s.Keeps (s.needCop0 k) := by
  unfold State.needCop0
  split
  · exact h
  · exact s.trap_keeps _

theorem State.retire_keeps {s t : State} (h : s.Keeps t) : OutHolds s.Keeps (.next t.retire) := .next (h.trans t.keeps_retire)

theorem State.writeResult_keeps (r : Reg) (v : Dword) : OutHolds s.Keeps (s.writeResult r v) :=
  State.retire_keeps (s.keeps_setReg r v)

theorem State.writeUnlessOverflow_keeps (c : Bool) (r : Reg) (v : Dword) : OutHolds s.Keeps (s.writeUnlessOverflow c r v) := by
  unfold State.writeUnlessOverflow
  split
  · exact s.trap_keeps _
  · exact s.writeResult_keeps r v

theorem State.writeHiLo_keeps (hi lo : Dword) : OutHolds s.Keeps (s.writeHiLo hi lo) :=
  State.retire_keeps (s.keeps_hilo hi lo)

theorem State.divideByZero_keeps : OutHolds s.Keeps s.divideByZero :=
  (s.keeps_draw.trans (State.keeps_draw _)).out (State.writeHiLo_keeps _ _ _)

theorem State.divideWords_keeps (n d : Int) : OutHolds s.Keeps (s.divideWords n d) := by
  unfold State.divideWords
  split
  · exact s.divideByZero_keeps
  · exact s.writeHiLo_keeps _ _

theorem State.divideDwords_keeps (n d : Int) : OutHolds s.Keeps (s.divideDwords n d) := by
  unfold State.divideDwords
  split
  · exact s.divideByZero_keeps
  · exact s.writeHiLo_keeps _ _

theorem State.macc_keeps (sat hi us : Bool) (rd rs rt : Reg) : OutHolds s.Keeps (s.macc sat hi us rd rs rt) :=
  (s.keeps_hilo _ _).out (State.writeResult_keeps _ rd _)

theorem State.dmacc_keeps (sat hi us : Bool) (rd rs rt : Reg) : OutHolds s.Keeps (s.dmacc sat hi us rd rs rt) :=
  s.need64_keeps ((s.keeps_hilo s.hi _).out (State.writeResult_keeps _ rd _))

theorem State.trapIf_keeps (c : Bool) : OutHolds s.Keeps (s.trapIf c) := by
  unfold State.trapIf
  split
  · exact s.trap_keeps _
  · exact State.retire_keeps (.refl s)

theorem State.jump_keeps (taken likely : Bool) (target : Dword) : OutHolds s.Keeps (s.jump taken likely target) := by
  cases h : s.slot with
  | delay x => rw [State.jump_slot h]; exact .fault _
  | normal =>
    rw [State.jump_eq h]
    exact .next (s.keeps_stepRandom.trans ⟨State.canonical_congr rfl rfl rfl rfl, fun l => ⟨l.zero, l.cp0⟩⟩)

theorem State.branch_keeps (taken likely : Bool) (offset : Half) : OutHolds s.Keeps (s.branch taken likely offset) :=
  s.jump_keeps _ _ _

theorem State.linkBranch_keeps (taken likely : Bool) (offset : Half) : OutHolds s.Keeps (s.link.branch taken likely offset) :=
  (s.keeps_setReg 31 _).out (State.branch_keeps _ _ _ _)

/-- An effect that keeps the invariants, followed by the instruction's completion or its exception. -/
theorem Res.Holds.finish_keeps {s : State} {r : Res Unit} (h : r.Holds s.Keeps) : OutHolds s.Keeps r.finish := by
  cases h with
  | ok h => exact State.retire_keeps h
  | raise h => exact h.out (State.trap_keeps _ _)
  | fault => exact .fault _

theorem Res.Holds.keeps {α : Type} {s : State} {r : Res α} (h : r.Holds s.Evolves) : r.Holds s.Keeps :=
  h.mono fun _ => State.Evolves.keeps

theorem State.loadInto_keeps {s : State} (rt : Reg) (f : Dword → Dword) {r : Res Dword} (h : r.Holds s.Evolves) :
    OutHolds s.Keeps (State.loadInto rt f r) :=
  (h.keeps.bind fun d t ht => .ok (ht.trans (t.keeps_setReg rt (f d)))).finish_keeps

theorem State.storeFinish_keeps (align : Nat) (va : Dword) (lo n : Nat) (v : Dword) :
    OutHolds s.Keeps (s.store align va lo n v).finish := (s.store_evolves align va lo n v).keeps.finish_keeps

/-! ### Coprocessor 0 -/

theorem State.writeCp0_keeps (n : Reg) (v : Dword) : OutHolds s.Keeps (s.writeCp0 n v) := by
  have h : s.Keeps { s with cp0 := s.cp0.write n v } := s.keeps_cp0 fun l => l.write n v
  unfold State.writeCp0
  split
  · exact .next (h.trans (State.keeps_advance _))
  · exact State.retire_keeps h

theorem State.keeps_tlbShutdown (b : Bool) : s.Keeps { s with tlbShutdown := b } := (s.evolves_tlbShutdown b).keeps

/-- TLBP writes no reserved bit of Index. -/
theorem State.keeps_probeResult : s.Keeps s.probeResult := by
  have index {p : Cp0} {i : Word} (hi : i &&& 0x7FFF_FFE0 = 0) : p.Legal → ({ p with index := i } : Cp0).Legal :=
    fun h => { h with index := hi }
  have indexBits : ∀ i : Fin 32, BitVec.ofNat 32 i &&& 0x7FFF_FFE0#32 = 0 := by decide
  have miss (i : Word) : (0x8000_0000 ||| (i &&& 0x1F)) &&& 0x7FFF_FFE0 = 0 :=
    or_and_eq_zero (by decide) (and_and_eq_zero (by decide) i)
  have missed := s.keeps_draw.trans (s.draw.2.keeps_cp0 (index (miss (low32 s.draw.1))))
  unfold State.probeResult
  split
  next i _ => exact s.keeps_cp0 (index (indexBits i))
  next =>
    dsimp only
    split
    · exact missed
    · exact missed.trans (State.keeps_tlbShutdown _ true)

theorem State.writeTlb_keeps (i : BitVec 5) : OutHolds s.Keeps (s.writeTlb i) := by
  unfold State.writeTlb
  split
  · exact State.retire_keeps ⟨State.canonical_congr rfl rfl rfl rfl, fun l => ⟨l.zero, l.cp0⟩⟩
  · exact .fault _

theorem execEret_keeps : OutHolds s.Keeps (execEret s) := by
  refine s.needCop0_keeps ?_
  split
  · exact .fault _
  · exact .next (s.keeps_stepRandom.trans (State.keeps_returnFromException _))

/-- Every operation of CACHE keeps the invariants: Index_Load_Tag changes TagLo only, the others no register. -/
theorem State.cacheOp_keeps (op : BitVec 5) (va : Dword) (pa : PAddr) : (s.cacheOp op va pa).Holds s.Keeps := by
  cases h : loadsTag op with
  | false => exact (s.cacheOp_evolves h va pa).keeps
  | true =>
    rw [s.cacheOp_loadTag h]
    refine .ok (s.keeps_cp0 fun l => { l with tagLo := ?_ })
    split
    · exact ILine.tagLo_and _
    · exact DLine.tagLo_and _

theorem State.cacheEffect_keeps (op : BitVec 5) (va : Dword) : (s.cacheEffect op va).Holds s.Keeps := by
  unfold State.cacheEffect
  split
  · exact .raise (.refl s)
  · refine (s.translate_evolves _ _).keeps.bind fun t u hu => ?_
    split
    · exact (u.cacheOp_keeps op va _).mono fun _ => hu.trans
    · exact .ok hu

theorem State.stopPipeline_keeps (m : PowerMode) : OutHolds s.Keeps (s.stopPipeline m) :=
  .next ((s.lands_awaitSysAd.evolves.keeps.trans (State.keeps_retire _)).trans
    ⟨State.canonical_congr rfl rfl rfl rfl, fun l => ⟨l.zero, l.cp0⟩⟩)

theorem execDmfc0_keeps (rt rd : Reg) : OutHolds s.Keeps (execDmfc0 rt rd s) := by
  refine s.needCop0_keeps (s.need64_keeps ?_)
  split
  · exact s.writeResult_keeps _ _
  · exact s.keeps_draw.out (State.writeResult_keeps _ _ _)

theorem execJalr_keeps (rd rs : Reg) : OutHolds s.Keeps (execJalr rd rs s) := by
  unfold execJalr
  split
  · exact ((s.keeps_draw.trans (State.keeps_draw _)).trans (State.keeps_setReg _ rd _)).out (State.jump_keeps _ _ _ _)
  · exact (s.keeps_setReg rd _).out (State.jump_keeps _ _ _ _)

/-! ### Every instruction -/

/-- Every instruction keeps the invariants, by the operation that its meaning ends in. -/
theorem exec_keeps (i : Instr) : OutHolds s.Keeps (exec i s) := by
  cases i with
  | lb | lbu | lh | lhu | lw | lwl | lwr => exact State.loadInto_keeps _ _ (s.load_evolves _ _ _ _)
  | lwu | ld | ldl | ldr =>
    apply s.need64_keeps
    exact State.loadInto_keeps _ _ (s.load_evolves _ _ _ _)
  | sb | sh | sw | swl | swr => exact s.storeFinish_keeps _ _ _ _ _
  | sd | sdl | sdr =>
    apply s.need64_keeps
    exact s.storeFinish_keeps _ _ _ _ _
  | addi | add | sub => exact s.writeUnlessOverflow_keeps _ _ _
  | daddi | dadd | dsub =>
    apply s.need64_keeps
    exact s.writeUnlessOverflow_keeps _ _ _
  | addiu | slti | sltiu | andi | ori | xori | lui | addu | subu | and | or | xor | nor | slt | sltu => exact s.writeResult_keeps _ _
  | sll | srl | sra | sllv | srlv | srav | mfhi | mflo => exact s.writeResult_keeps _ _
  | daddiu | daddu | dsubu | dsll | dsrl | dsra | dsllv | dsrlv | dsrav | dsll32 | dsrl32 | dsra32 =>
    apply s.need64_keeps
    exact s.writeResult_keeps _ _
  | mult | multu | mthi | mtlo => exact s.writeHiLo_keeps _ _
  | dmult | dmultu =>
    apply s.need64_keeps
    exact s.writeHiLo_keeps _ _
  | div | divu => exact s.divideWords_keeps _ _
  | ddiv | ddivu =>
    apply s.need64_keeps
    exact s.divideDwords_keeps _ _
  | macc | maccu | macchi | macchiu | maccs | maccus | macchis | macchius => exact s.macc_keeps _ _ _ _ _ _
  | dmacc | dmaccu | dmacchi | dmacchiu | dmaccs | dmaccus | dmacchis | dmacchius => exact s.dmacc_keeps _ _ _ _ _ _
  | j | jr => exact s.jump_keeps _ _ _
  | jal => exact (s.keeps_setReg 31 _).out (State.jump_keeps _ _ _ _)
  | jalr rd rs => exact execJalr_keeps s rd rs
  | beq | bne | blez | bgtz | beql | bnel | blezl | bgtzl | bltz | bgez | bltzl | bgezl => exact s.branch_keeps _ _ _
  | bltzal | bgezal | bltzall | bgezall => exact s.linkBranch_keeps _ _ _
  | bc0f | bc0t | bc0fl | bc0tl =>
    apply s.needCop0_keeps
    exact s.branch_keeps _ _ _
  | sync => exact State.retire_keeps (.refl s)
  | tge | tgeu | tlt | tltu | teq | tne | tgei | tgeiu | tlti | tltiu | teqi | tnei => exact s.trapIf_keeps _
  | mfc0 =>
    apply s.needCop0_keeps
    exact s.writeResult_keeps _ _
  | dmfc0 rt rd => exact execDmfc0_keeps s rt rd
  | mtc0 =>
    apply s.needCop0_keeps
    exact s.writeCp0_keeps _ _
  | dmtc0 =>
    apply s.needCop0_keeps
    apply s.need64_keeps
    exact s.writeCp0_keeps _ _
  | tlbr =>
    apply s.needCop0_keeps
    exact State.retire_keeps (s.keeps_cp0 fun l => l.loadEntry _)
  | tlbwi | tlbwr =>
    apply s.needCop0_keeps
    exact s.writeTlb_keeps _
  | tlbp =>
    apply s.needCop0_keeps
    exact State.retire_keeps s.keeps_probeResult
  | eret => exact execEret_keeps s
  | standby | suspend | hibernate =>
    apply s.needCop0_keeps
    exact s.stopPipeline_keeps _
  | cache =>
    apply s.needCop0_keeps
    exact (s.cacheEffect_keeps _ _).finish_keeps
  | jalx | syscall | brk | ll | lld | sc | scd => exact s.trap_keeps _
  | cop1 | lwc1 | ldc1 | swc1 | sdc1 | cop2 | lwc2 | ldc2 | swc2 | sdc2 => exact s.trap_keeps _

/-! ### Every step -/

theorem State.runWord_keeps (w : Word) : OutHolds s.Keeps (s.runWord w) := by
  unfold State.runWord
  split
  · exact exec_keeps s _
  · exact s.trap_keeps _
  · exact s.needCop0_keeps (s.trap_keeps _)

theorem State.fetchAndRun_keeps (t : Target) : OutHolds s.Keeps (s.fetchAndRun t) := by
  have h := (s.fetchWord_evolves t).keeps
  unfold State.fetchAndRun
  split
  · exact s.trap_keeps _
  · cases e : s.fetchWord t with
    | ok w u => rw [e] at h; exact h.of_ok.out (u.runWord_keeps w)
    | raise x u => rw [e] at h; exact h.of_raise.out (u.trap_keeps x)
    | fault f => exact .fault f

theorem State.runInstruction_keeps : OutHolds s.Keeps s.runInstruction := by
  have h := s.fetchTarget_evolves.keeps
  unfold State.runInstruction
  split
  · exact .fault _
  · split
    · exact .fault _
    · cases e : s.fetchTarget with
      | ok t u => rw [e] at h; exact h.of_ok.out (u.fetchAndRun_keeps t)
      | raise x u => rw [e] at h; exact h.of_raise.out (u.trap_keeps x)
      | fault f => exact .fault f

/-- What happens at an instruction boundary keeps the invariants (R1117). -/
theorem State.boundary_keeps : OutHolds s.Keeps s.boundary := by
  unfold State.boundary
  split
  · exact .next s.keeps_coldReset
  · split
    · exact .next (.refl s)
    · split
      · exact .next s.keeps_takeNmi
      · split
        · exact (s.evolves_watchPending false).keeps.out (State.trap_keeps _ _)
        · exact s.runInstruction_keeps

/-- All that a step does: what stands at the boundary, and then what happens between instructions. -/
theorem step_next {s t : State} (h : step s = .next t) : ∃ u, s.boundary = .next u ∧ t = u.settle := by
  unfold step settleOut at h
  split at h
  next u e => exact ⟨u, e, (Host.Outcome.next.inj h).symm⟩
  all_goals cases h

/-- Every step keeps the sparse maps canonical and the registers legal. -/
theorem step_keeps {s t : State} (h : step s = .next t) : s.Keeps t := by
  obtain ⟨u, hu, rfl⟩ := step_next h
  exact (s.boundary_keeps u hu).trans u.settled_settle.keeps

/-- Settles O5: every operation that a step is made of keeps the canonical form. -/
theorem stepKeepsStateCanonical : Obligations.StepKeepsStateCanonical :=
  fun _ _ hs h => (step_keeps h).canonical hs

/-- Settles O6: every operation that a step is made of keeps the registers legal. -/
theorem stepKeepsRegistersLegal : Obligations.StepKeepsRegistersLegal :=
  fun s t hs h => t.legal_iff.mpr ((step_keeps h).legal (s.legal_iff.mp hs))

end Sys2Proof.Machine
end

section
/-! PROOFS. Reset, and what exception entry writes: Cause, Status, EPC and the address registers, field by field. -/
namespace Sys2Proof.Machine

/-! ### Reset -/

theorem State.canonical_reset : State.reset.canonical = true := rfl

/-- Settles O7. -/
theorem resetSatisfiesInvariants : Obligations.ResetSatisfiesInvariants := by
  have legal := State.reset.legal_iff.mpr State.legal_reset
  simp only [Bool.and_eq_true, and_assoc] at legal
  exact ⟨State.canonical_reset, legal⟩

/-- Settles O8: every clause speaks of the one state after reset, and is computed. -/
theorem resetState : Obligations.ResetState := by
  refine ⟨rfl, rfl, ?_, ?_, ?_, ?_, rfl, rfl, ?_, rfl, rfl, rfl, rfl⟩
  all_goals decide

/-! ### Exception entry -/

section
variable (s : State) (e : Exc)

@[simp] theorem Cp0.saveAddress_cause (p : Cp0) (n : Nat) : (p.saveAddress e n).cause = p.cause := by cases e <;> rfl
@[simp] theorem Cp0.saveAddress_epc (p : Cp0) (n : Nat) : (p.saveAddress e n).epc = p.epc := by cases e <;> rfl

/-- Cause after exception entry: CE and ExcCode are written, the other bits are those that the restart has left (R1130). -/
theorem State.takeException_cause : (s.takeException e).cp0.cause = merge 0x3000_007C s.saveRestart.cause
    (((e.causeCe s.free).zeroExtend 32 <<< 28) ||| (e.code.zeroExtend 32 <<< 2)) := by
  rw [← Cp0.saveAddress_cause e s.saveRestart s.free]; rfl

theorem State.saveRestart_cause_extractLsb' {k n : Nat} (h : k + n ≤ 31) :
    s.saveRestart.cause.extractLsb' k n = s.cp0.cause.extractLsb' k n := by
  unfold State.saveRestart
  split
  · rfl
  · exact extractLsb'_setBit (by decide) _ (.inr h)

/-- EPC is written only if EXL was 0; in a delay slot it is the branch before it (R1130, R1131, R1133). -/
theorem State.takeException_epc : (s.takeException e).cp0.epc =
    if s.exl then s.cp0.epc else if s.inDelaySlot then s.pc - 4 else s.pc := by
  have saved : (s.takeException e).cp0.epc = s.saveRestart.epc := Cp0.saveAddress_epc e s.saveRestart s.free
  rw [saved]
  unfold State.saveRestart State.restartPc State.inDelaySlot
  cases s.exl
  · cases s.slot <;> rfl
  · rfl

/-- Cause.BD is written only if EXL was 0 (R1133). -/
theorem State.takeException_bd : (s.takeException e).cp0.cause.getLsbD 31 =
    if s.exl then s.cp0.cause.getLsbD 31 else s.inDelaySlot := by
  rw [State.takeException_cause, getLsbD_merge, if_neg (by decide), State.saveRestart]
  cases s.exl
  · exact getLsbD_setBit _ (by decide) _ _
  · rfl

/-- Cause.ExcCode (R48). -/
theorem State.takeException_excCode : (s.takeException e).cp0.cause.extractLsb' 2 5 = e.code := by
  rw [State.takeException_cause, extractLsb'_merge_new (by decide), BitVec.extractLsb'_or, extractLsb'_field (by decide),
    extractLsb'_field_beside (by decide)]
  exact BitVec.zero_or

/-- Cause.CE (R1148). -/
theorem State.takeException_ce : (s.takeException e).cp0.cause.extractLsb' 28 2 = e.causeCe s.free := by
  rw [State.takeException_cause, extractLsb'_merge_new (by decide), BitVec.extractLsb'_or, extractLsb'_field (by decide),
    extractLsb'_field_beside (by decide)]
  exact BitVec.or_zero

/-- The bits of Cause between ExcCode and CE stay. -/
theorem State.takeException_cause_rest :
    (s.takeException e).cp0.cause.extractLsb' 7 21 = s.cp0.cause.extractLsb' 7 21 := by
  rw [State.takeException_cause, extractLsb'_merge_old (by decide), State.saveRestart_cause_extractLsb' s (by decide)]

theorem State.takeException_errorEpc : (s.takeException e).cp0.errorEpc = s.cp0.errorEpc := by
  rw [s.takeException_cp0_only e]

theorem State.takeException_random : (s.takeException e).cp0.random = s.cp0.random := by
  rw [s.takeException_cp0_only e]

end

/-- Settles O12: each register that exception entry writes has its lemma above, the frame is `takeException_sameOutsideCore`. -/
theorem exceptionEntrySaves : Obligations.ExceptionEntrySaves := by
  intro s e
  refine ⟨s.takeException_epc e, s.takeException_bd e, ?_, ?_, s.takeException_cause_rest e, s.takeException_status e,
    s.takeException_exl e, s.takeException_mode e, s.takeException_errorEpc e, s.takeException_random e,
    s.takeException_getReg e, rfl, rfl, fun _ => rfl, s.takeException_sameOutsideCore e⟩
  · rw [s.takeException_excCode e]
    cases e <;> rfl
  · rintro unit rfl
    exact s.takeException_ce (.cpu unit)

/-! ### The address registers -/

section
variable (s : State) {e : Exc}

@[simp] theorem State.saveRestart_context : s.saveRestart.context = s.cp0.context := by unfold State.saveRestart; split <;> rfl
@[simp] theorem State.saveRestart_xcontext : s.saveRestart.xcontext = s.cp0.xcontext := by unfold State.saveRestart; split <;> rfl
@[simp] theorem State.saveRestart_entryHi : s.saveRestart.entryHi = s.cp0.entryHi := by unfold State.saveRestart; split <;> rfl
@[simp] theorem State.saveRestart_entryLo0 : s.saveRestart.entryLo0 = s.cp0.entryLo0 := by unfold State.saveRestart; split <;> rfl
@[simp] theorem State.saveRestart_entryLo1 : s.saveRestart.entryLo1 = s.cp0.entryLo1 := by unfold State.saveRestart; split <;> rfl
@[simp] theorem State.saveRestart_badVAddr : s.saveRestart.badVAddr = s.cp0.badVAddr := by unfold State.saveRestart; split <;> rfl

/-- The address registers after a TLB exception (R1132). -/
theorem State.takeException_tlbAddress {va : Dword} (h : e.tlbAddress = some va) :
    (s.takeException e).cp0.badVAddr = va ∧
    (s.takeException e).cp0.context = merge 0x0000_0000_01FF_FFF0 s.cp0.context (va >>> 7) ∧
    (s.takeException e).cp0.xcontext = merge 0x0000_0007_FFFF_FFF0 s.cp0.xcontext (xcontextFields va) ∧
    (s.takeException e).cp0.entryHi = merge 0xC000_00FF_FFFF_F800 s.cp0.entryHi va := by
  rw [← s.saveRestart_context, ← s.saveRestart_xcontext, ← s.saveRestart_entryHi]
  unfold State.takeException Cp0.saveAddress
  rw [h]
  exact ⟨rfl, rfl, rfl, rfl⟩

/-- BadVAddr after an Address Error (R1132). -/
theorem State.takeException_errorAddress {va : Dword} (h : e.errorAddress = some va) : (s.takeException e).cp0.badVAddr = va := by
  cases e with
  | addressError store a => exact Option.some.inj h
  | _ => cases h

/-- An exception without a failing address leaves the address registers alone. -/
theorem State.takeException_noAddress (ht : e.tlbAddress = none) (he : e.errorAddress = none) :
    (s.takeException e).cp0.badVAddr = s.cp0.badVAddr ∧ (s.takeException e).cp0.context = s.cp0.context ∧
    (s.takeException e).cp0.xcontext = s.cp0.xcontext ∧ (s.takeException e).cp0.entryHi = s.cp0.entryHi ∧
    (s.takeException e).cp0.entryLo0 = s.cp0.entryLo0 ∧ (s.takeException e).cp0.entryLo1 = s.cp0.entryLo1 := by
  unfold State.takeException Cp0.saveAddress
  rw [ht, he]
  simp

end

/-- XContext.BadVPN2 (R54). -/
theorem xcontextFields_vpn2 (va : Dword) : (xcontextFields va).extractLsb' 4 29 = va.extractLsb' 11 29 := by
  rw [xcontextFields, BitVec.extractLsb'_or, extractLsb'_and_of_zero (by decide), extractLsb'_and_of_allOnes (by decide),
    extractLsb'_ushiftRight va 7]
  exact BitVec.zero_or

/-- XContext.R (R54). -/
theorem xcontextFields_region (va : Dword) : (xcontextFields va).extractLsb' 33 2 = va.extractLsb' 62 2 := by
  rw [xcontextFields, BitVec.extractLsb'_or, extractLsb'_and_of_allOnes (by decide), extractLsb'_and_of_zero (by decide),
    extractLsb'_ushiftRight va 29]
  exact BitVec.or_zero

/-- Settles O13: a TLB exception merges the failing address into the registers, and each field lies inside or outside the merge's mask. -/
theorem exceptionAddressRegisters : Obligations.ExceptionAddressRegisters := by
  intro s e
  refine ⟨fun va h => ?_, fun va h => s.takeException_errorAddress h, fun ht he => s.takeException_noAddress ht he⟩
  obtain ⟨badVAddr, context, xcontext, entryHi⟩ := s.takeException_tlbAddress h
  rw [context, xcontext, entryHi]
  refine ⟨badVAddr, ?_, ?_, ?_, ?_, ?_, ?_, ?_, ?_⟩
  · rw [extractLsb'_merge_new (by decide), extractLsb'_ushiftRight va 7]
  · exact extractLsb'_merge_old (by decide) _ _
  · rw [extractLsb'_merge_new (by decide), xcontextFields_vpn2]
  · rw [extractLsb'_merge_new (by decide), xcontextFields_region]
  · exact extractLsb'_merge_old (by decide) _ _
  · exact extractLsb'_merge_new (by decide) _ _
  · exact extractLsb'_merge_new (by decide) _ _
  · exact extractLsb'_merge_old (by decide) _ _

end Sys2Proof.Machine
end

section
/-! PROOFS. The mode checks, the moves to CP0, and the interrupt lines with the timer interrupt. -/
namespace Sys2Proof.Machine

/-! ### Mode checks -/

/-- The CP0 instructions where CP0 is not usable (R188, R470). -/
theorem exec_cop0_unusable {s : State} (h : s.cop0Usable = false) (a b : Reg) (op : BitVec 5) (imm : Half) :
    ∀ i ∈ [Instr.mfc0 a b, .mtc0 a b, .dmfc0 a b, .dmtc0 a b, .tlbr, .tlbwi, .tlbwr, .tlbp, .eret, .standby, .suspend,
      .hibernate, .cache op a imm, .bc0f imm, .bc0t imm, .bc0fl imm, .bc0tl imm], exec i s = s.trap (.cpu 0) := by
  intro i hi
  fin_cases hi
  all_goals apply State.needCop0_not h

/-- The 64-bit instructions where 64-bit operations are not enabled (R57, R1147). -/
theorem exec_ops64_disabled {s : State} (h : s.ops64 = false) (a b c : Reg) (sa : BitVec 5) (imm : Half) :
    ∀ i ∈ [Instr.lwu a b imm, .ld a b imm, .ldl a b imm, .ldr a b imm, .sd a b imm, .sdl a b imm, .sdr a b imm,
      .daddi a b imm, .daddiu a b imm, .dadd a b c, .daddu a b c, .dsub a b c, .dsubu a b c, .dsll a b sa, .dsrl a b sa,
      .dsra a b sa, .dsllv a b c, .dsrlv a b c, .dsrav a b c, .dsll32 a b sa, .dsrl32 a b sa, .dsra32 a b sa, .dmult a b,
      .dmultu a b, .ddiv a b, .ddivu a b, .dmacc a b c, .dmaccu a b c, .dmacchi a b c, .dmacchiu a b c, .dmaccs a b c,
      .dmaccus a b c, .dmacchis a b c, .dmacchius a b c], exec i s = s.trap .ri := by
  intro i hi
  fin_cases hi
  all_goals apply State.need64_not h

theorem State.cop0Usable_false {s : State} (hm : s.mode ≠ .kernel) (hc : s.cu0 = false) : s.cop0Usable = false := by
  simp [State.cop0Usable, hm, hc]

/-- Settles O56: each of these instructions begins with its mode check. -/
theorem modeChecks : Obligations.ModeChecks := by
  intro a b c sa imm s
  refine ⟨fun hm hc i hi => ?_, fun h i hi => exec_ops64_disabled h a b c sa imm i hi, fun hu h => ?_⟩
  · exact ⟨exec_cop0_unusable (State.cop0Usable_false hm hc) a b sa imm i hi, s.takeException_ce (.cpu 0)⟩
  · have checked (k : State → Out) : s.needCop0 (fun s => s.need64 k) = s.trap .ri :=
      (State.needCop0_of hu _).trans (State.need64_not h k)
    simp only [List.forall_mem_cons]
    exact ⟨checked _, checked _, by simp⟩

/-! ### Moves to CP0 -/

/-- The CP0 registers after a move of `v` to register `n` has completed: Random advances, but for a write of Wired. -/
def Cp0.moved (p : Cp0) (n : Reg) (v : Dword) : Cp0 :=
  if n = 6 then p.write n v else { p.write n v with random := (p.write n v).nextRandom }

/-- All that a move to CP0 does. -/
theorem State.writeCp0_eq (s : State) (n : Reg) (v : Dword) :
    s.writeCp0 n v = .next { s.advance with cp0 := s.cp0.moved n v } := by
  unfold State.writeCp0 Cp0.moved
  split <;> rfl

theorem exec_mtc0 {s : State} (h : s.cop0Usable = true) (rt rd : Reg) : exec (.mtc0 rt rd) s = s.writeCp0 rd (s.getReg rt) := by
  apply State.needCop0_of h

theorem exec_dmtc0 {s : State} (h : s.cop0Usable = true) (h64 : s.ops64 = true) (rt rd : Reg) :
    exec (.dmtc0 rt rd) s = s.writeCp0 rd (s.getReg rt) := by
  refine .trans (b := s.need64 fun s => s.writeCp0 rd (s.getReg rt)) ?_ (State.need64_of h64 _)
  apply State.needCop0_of h

/-- Clearing bit 15 of a word. -/
theorem setBit_15_false (v : Word) : setBit v 15 false = v &&& 0xFFFF_7FFF := by
  apply BitVec.eq_of_getLsbD_eq
  intro i hi
  rw [getLsbD_setBit v (by decide), BitVec.getLsbD_and]
  have mask : ∀ i : Fin 32, (0xFFFF_7FFF : Word).getLsbD i = !decide (i.val = 15) := by decide
  rw [mask ⟨i, hi⟩]
  by_cases h : i = 15 <;> simp [h]

/-- Settles O49: both moves are `State.writeCp0`, whose effect on each register is that of `Cp0.write`. -/
theorem movesToCp0 : Obligations.MovesToCp0 := by
  intro rt s i hu hi v w after random
  have run (n : Reg) : exec (i n) s = .next { s.advance with cp0 := s.cp0.moved n v } := by
    rw [← State.writeCp0_eq]
    rcases hi with rfl | ⟨h64, rfl⟩
    · exact exec_mtc0 hu rt n
    · exact exec_dmtc0 hu h64 rt n
  have moved (n : Reg) {q : Cp0} (h : s.cp0.moved n v = q) : after n fun t => t.cp0 = q :=
    ⟨_, run n, fun _ => rfl, rfl, rfl, rfl, rfl, rfl, fun _ => rfl, rfl, h⟩
  refine ⟨moved 0 rfl, moved 2 rfl, moved 3 rfl, moved 4 rfl, moved 5 rfl, moved 6 ?_, moved 9 rfl, moved 10 rfl, moved 11 ?_,
    moved 12 rfl, moved 13 rfl, moved 14 rfl, moved 16 rfl, moved 17 rfl, moved 18 rfl, moved 20 rfl, moved 26 rfl, moved 28 rfl,
    moved 30 rfl, ?_⟩
  · rw [BitVec.setWidth_eq_extractLsb' (by decide)]; rfl
  · rw [← setBit_15_false]; rfl
  · intro n hn
    apply moved n
    fin_cases hn <;> rfl

/-! ### The timer interrupt and the interrupt lines -/

/-- One of the next `m` increments of `count` makes it equal to `compare`. -/
theorem count_reaches (compare count : Word) (m : Nat) :
    (compare - count - 1).toNat < m ↔ ∃ k, 1 ≤ k ∧ k ≤ m ∧ count + BitVec.ofNat 32 k = compare := by
  constructor
  · intro h
    exact ⟨(compare - count - 1).toNat + 1, by omega, by omega, by bv_omega⟩
  · rintro ⟨k, hk, hm, rfl⟩
    bv_omega

theorem State.countTime_eq {s : State} (h : s.power ≠ .hibernate) (n : Nat) : s.countTime n =
    { s with
      countPre := (s.countPre + n) % max 1 s.board.countDiv
      cp0 := { s.cp0 with
        count := s.cp0.count + BitVec.ofNat 32 ((s.countPre + n) / max 1 s.board.countDiv)
        cause := if (s.cp0.compare - s.cp0.count - 1).toNat < (s.countPre + n) / max 1 s.board.countDiv then
          setBit s.cp0.cause 15 true else s.cp0.cause } } := if_neg h

/-- The lines reach bits 14:10, the other bits of Cause are those of the register (R47, R72). -/
theorem State.causeNow_getLsbD (s : State) (n : Nat) : s.causeNow.getLsbD n =
    if 10 ≤ n ∧ n < 15 then s.intLines.getLsbD n else s.cp0.cause.getLsbD n := by
  have mask : (0x7C00 : Word).getLsbD n = decide (10 ≤ n ∧ n < 15) := by
    by_cases hn : n < 32
    · have all : ∀ n : Fin 32, (0x7C00 : Word).getLsbD n = decide (10 ≤ n.val ∧ n.val < 15) := by decide
      exact all ⟨n, hn⟩
    · rw [BitVec.getLsbD_of_ge _ _ (by omega)]
      simp; omega
  rw [State.causeNow, getLsbD_merge, mask]
  simp only [decide_eq_true_eq]

/-- Bit `n` of the lines, by the source of each bit (R520, R1164). -/
theorem State.intLines_getLsbD (s : State) (n : Nat) : s.intLines.getLsbD n =
    (s.usb.intr && (0x0400 : Word).getLsbD n || s.eth1.intr && (0x0800 : Word).getLsbD n || s.atm.intr && (0x1000 : Word).getLsbD n ||
      s.syscon.intb3 && (0x2000 : Word).getLsbD n ||
      (s.eth2.intr || s.pci.intr s.board.nic) && (0x4000 : Word).getLsbD n) := by
  simp only [State.intLines, BitVec.getLsbD_or, getLsbD_ite_zero]

/-- Settles O60: Cause shows each line in its bit, and the increments of Count are found in order. -/
theorem interruptLines : Obligations.InterruptLines := by
  intro s
  refine ⟨fun n hp => ?_, ?_, ?_, ?_, ?_, ?_, fun n hn => ?_⟩
  · have reached := count_reaches s.cp0.compare s.cp0.count ((s.countPre + n) / max 1 s.board.countDiv)
    dsimp only
    rw [State.countTime_eq hp, ← reached]
    refine ⟨rfl, ?_, fun j hj => ?_⟩
    · split
      next h => simp only [h, or_true, iff_true]; exact getLsbD_setBit _ (by decide) _ _
      next h => simp only [h, or_false]
    · split
      · rw [getLsbD_setBit _ (by decide), if_neg hj]
      · rfl
  · rw [State.causeNow_getLsbD, if_pos (by decide), State.intLines_getLsbD]; simp
  · rw [State.causeNow_getLsbD, if_pos (by decide), State.intLines_getLsbD]; simp
  · rw [State.causeNow_getLsbD, if_pos (by decide), State.intLines_getLsbD]; simp
  · rw [State.causeNow_getLsbD, if_pos (by decide), State.intLines_getLsbD]; simp [Syscon.intb3]
  · rw [State.causeNow_getLsbD, if_pos (by decide), State.intLines_getLsbD]; simp
  · rw [State.causeNow_getLsbD, if_neg (by omega)]

end Sys2Proof.Machine
end

section
/-! PROOFS. The TLB: which entries match, the page and the address that an entry gives, and what the matching entries decide. -/
namespace Sys2Proof.Machine

/-! ### Matching -/

theorem getLsbD_maskVpn2 (mask : Byte) (v : BitVec 29) {i : Nat} (hi : i < 29) :
    (maskVpn2 mask v).getLsbD i = (v.getLsbD i && !mask.getLsbD i) := by
  simp only [maskVpn2, BitVec.truncate_eq_setWidth, BitVec.getLsbD_and, BitVec.getLsbD_not, BitVec.getLsbD_setWidth, hi,
    decide_true, Bool.true_and]

/-- The low `n` bits of two masked VPN2 agree if those of the VPN2 do wherever MASK has no one. -/
theorem maskVpn2_low_eq_iff {n : Nat} (hn : n ≤ 29) (mask : Byte) (u v : BitVec 29) :
    (maskVpn2 mask u).extractLsb' 0 n = (maskVpn2 mask v).extractLsb' 0 n ↔
      ∀ i, i < n → mask.getLsbD i = false → u.getLsbD i = v.getLsbD i := by
  have bit (w : BitVec 29) {i : Nat} (hi : i < n) :
      ((maskVpn2 mask w).extractLsb' 0 n).getLsbD i = (w.getLsbD i && !mask.getLsbD i) := by
    rw [BitVec.getLsbD_extractLsb', Nat.zero_add, getLsbD_maskVpn2 mask w (by omega)]
    simp [hi]
  constructor
  · intro h i hi hm
    have := congrArg (·.getLsbD i) h
    simpa [bit _ hi, hm] using this
  · intro h
    apply BitVec.eq_of_getLsbD_eq
    intro i hi
    rw [bit u hi, bit v hi]
    cases hm : mask.getLsbD i
    · rw [h i hi hm]
    · simp

/-- The same for all bits of the VPN2. -/
theorem maskVpn2_eq_iff (mask : Byte) (u v : BitVec 29) :
    maskVpn2 mask u = maskVpn2 mask v ↔ ∀ i, i < 29 → mask.getLsbD i = false → u.getLsbD i = v.getLsbD i := by
  rw [← maskVpn2_low_eq_iff (Nat.le_refl 29), BitVec.extractLsb'_eq_self, BitVec.extractLsb'_eq_self]

theorem region_eq_iff (a : Dword) (r : BitVec 2) : a.extractLsb' 62 2 = r ↔ a.toNat / 2 ^ 62 = r.toNat := by
  rw [← BitVec.toNat_inj, BitVec.extractLsb'_toNat, Nat.shiftRight_eq_div_pow, Nat.mod_eq_of_lt (by omega)]

/-- An entry matches if it is global or has the current ASID, and its VPN2 (and with 64-bit addressing its region) agrees with the
address wherever MASK has no one (R116). -/
theorem TlbEntry.hit_iff (e : TlbEntry) (x : Bool) (asid : Byte) (a : Dword) :
    e.hit x asid a = true ↔ (e.g = true ∨ e.asid = asid) ∧
      if x = true then a.toNat / 2 ^ 62 = e.r.toNat ∧ ∀ i, i < 29 → e.mask.getLsbD i = false → a.getLsbD (11 + i) = e.vpn2.getLsbD i
      else ∀ i, i < 21 → e.mask.getLsbD i = false → a.getLsbD (11 + i) = e.vpn2.getLsbD i := by
  have bit {n : Nat} (hn : n ≤ 29) :
      (∀ i, i < n → e.mask.getLsbD i = false → (a.extractLsb' 11 29).getLsbD i = e.vpn2.getLsbD i) ↔
      ∀ i, i < n → e.mask.getLsbD i = false → a.getLsbD (11 + i) = e.vpn2.getLsbD i := by
    refine forall₂_congr fun i hi => ?_
    rw [BitVec.getLsbD_extractLsb']
    simp [show i < 29 by omega]
  rw [TlbEntry.hit, ← bit (by decide), ← bit (by decide), ← maskVpn2_eq_iff, ← maskVpn2_low_eq_iff (by decide), ← region_eq_iff]
  cases x <;> simp

/-! ### The page and the physical address -/

/-- Below the offset the low bits, above it the high ones. -/
theorem toNat_merge_offset {w j : Nat} (hj : j ≤ w) (hi lo : BitVec w) :
    (merge (BitVec.ofNat w (2 ^ j - 1)) hi lo).toNat = hi.toNat / 2 ^ j * 2 ^ j + lo.toNat % 2 ^ j := by
  apply Nat.eq_of_testBit_eq
  intro i
  have mask : (BitVec.ofNat w (2 ^ j - 1)).getLsbD i = decide (i < j) := by
    rw [BitVec.getLsbD_ofNat, Nat.testBit_two_pow_sub_one]
    by_cases h : i < j
    · simp [h, show i < w by omega]
    · simp [h]
  rw [BitVec.testBit_toNat, getLsbD_merge, mask, Nat.mul_comm, Nat.testBit_two_pow_mul_add _ (Nat.mod_lt _ (Nat.two_pow_pos j))]
  by_cases h : i < j
  · simp [h, Nat.testBit_mod_two_pow, BitVec.testBit_toNat]
  · simp [h, Nat.testBit_div_two_pow, BitVec.testBit_toNat, Nat.sub_add_cancel (Nat.le_of_not_lt h)]

theorem getLsbD_iff_div_mod (a : Dword) (n : Nat) : a.getLsbD n = true ↔ a.toNat / 2 ^ n % 2 = 1 := by
  rw [← BitVec.testBit_toNat, Nat.testBit_eq_decide_div_mod_eq, decide_eq_true_eq]

/-- The page sizes of Table 2-34 and their pairs of offset bits beyond ten (R34). -/
theorem pageShift_table : ∀ c ∈ ([(0x00, 0), (0x03, 1), (0x0F, 2), (0x3F, 3), (0xFF, 4)] : List (Byte × Nat)),
    pageShift c.1 = c.2 ∧ c.2 ≤ 4 := by decide

/-- The odd page is chosen by the address bit above the offset (R116). -/
theorem TlbEntry.pageOf_eq (e : TlbEntry) (a : Dword) :
    e.pageOf a = if a.toNat / 2 ^ (10 + 2 * pageShift e.mask) % 2 = 1 then e.page1 else e.page0 := by
  rw [TlbEntry.pageOf]
  exact if_congr (getLsbD_iff_div_mod _ _) rfl rfl

/-- The physical address: PFN above the offset, the address below (R116, D14). -/
theorem toNat_pageAddress {mask : Byte} (h : pageShift mask ≤ 4) (pfn : BitVec 22) (a : Dword) :
    (pageAddress mask pfn a).toNat =
      pfn.toNat / 4 ^ pageShift mask * 2 ^ (10 + 2 * pageShift mask) + a.toNat % 2 ^ (10 + 2 * pageShift mask) := by
  have frame : (pfn ++ (0 : BitVec 10) : BitVec 32).toNat = pfn.toNat * 2 ^ 10 := by
    rw [BitVec.toNat_append]
    simp [Nat.shiftLeft_eq]
  have page : (pfn ++ (0 : BitVec 10) : BitVec 32).toNat / 2 ^ (10 + 2 * pageShift mask) = pfn.toNat / 4 ^ pageShift mask := by
    rw [frame, Nat.pow_add, Nat.mul_comm (2 ^ 10) (2 ^ (2 * pageShift mask)), Nat.mul_div_mul_right _ _ (by decide), Nat.pow_mul]
  have offset : (low32 a).toNat % 2 ^ (10 + 2 * pageShift mask) = a.toNat % 2 ^ (10 + 2 * pageShift mask) := by
    rw [low32, BitVec.truncate_eq_setWidth, BitVec.toNat_setWidth]
    exact Nat.mod_mod_of_dvd _ (Nat.pow_dvd_pow 2 (by omega))
  rw [pageAddress, toNat_merge_offset (by omega), page, offset]

/-! ### What the matching entries decide -/

section
variable {s : State} {a : Dword}

theorem State.tlbHits_shutdown (h : s.tlbShutdown = true) : s.tlbHits a = [] := if_pos h

theorem State.mem_tlbHits (h : s.tlbShutdown = false) (i : Fin 32) :
    i ∈ s.tlbHits a ↔ s.tlb[i].hit s.is64bitMode s.asid a = true := by
  simp [State.tlbHits, h]

theorem State.tlbHits_nodup : (s.tlbHits a).Nodup := by
  unfold State.tlbHits
  split
  · exact List.nodup_nil
  · exact (List.nodup_finRange 32).filter _

theorem State.tlbHits_none (hs : s.tlbShutdown = false) (h : ∀ i : Fin 32, s.tlb[i].hit s.is64bitMode s.asid a = false) :
    s.tlbHits a = [] := by
  refine List.eq_nil_iff_forall_not_mem.mpr fun i hi => ?_
  rw [State.mem_tlbHits hs, h i] at hi
  cases hi

/-- Exactly one entry matches. -/
theorem State.tlbHits_one {i : Fin 32} (hs : s.tlbShutdown = false) (hi : s.tlb[i].hit s.is64bitMode s.asid a = true)
    (ho : ∀ j : Fin 32, j ≠ i → s.tlb[j].hit s.is64bitMode s.asid a = false) : s.tlbHits a = [i] := by
  refine List.perm_singleton.mp ((List.perm_ext_iff_of_nodup State.tlbHits_nodup (List.nodup_singleton i)).mpr fun j => ?_)
  rw [State.mem_tlbHits hs, List.mem_singleton]
  constructor
  · intro hj
    by_contra hne
    rw [ho j hne] at hj
    cases hj
  · rintro rfl
    exact hi

/-- Several matching entries shut the TLB down and miss (D12). -/
theorem State.tlbTranslate_several {i j : Fin 32} (hij : i ≠ j) (hi : i ∈ s.tlbHits a) (hj : j ∈ s.tlbHits a) (w : Bool) :
    s.tlbTranslate w a = .raise (.tlbRefill w a) { s with tlbShutdown := true } := by
  unfold State.tlbTranslate
  split
  next h => rw [h] at hi; cases hi
  next h =>
    rw [h, List.mem_singleton] at hi hj
    exact absurd (hi.trans hj.symm) hij
  next => rfl

theorem State.tlbTranslate_none (h : s.tlbHits a = []) (w : Bool) : s.tlbTranslate w a = .raise (.tlbRefill w a) s := by
  unfold State.tlbTranslate
  rw [h]

/-- The one matching entry gives the page (R116). -/
theorem State.tlbTranslate_one {i : Fin 32} (h : s.tlbHits a = [i]) (w : Bool) : s.tlbTranslate w a =
    if (s.tlb[i].pageOf a).v = false then .raise (.tlbInvalid w a) s
    else if w = true ∧ (s.tlb[i].pageOf a).d = false then .raise (.mod a) s
    else .ok { pa := pageAddress s.tlb[i].mask (s.tlb[i].pageOf a).pfn a, cached := (s.tlb[i].pageOf a).c != 2 } s := by
  unfold State.tlbTranslate
  rw [h]
  dsimp only
  simp only [Bool.not_eq_true', Bool.and_eq_true]

end

/-- Settles O39: the list of the matching entries is empty, has one element or several. -/
theorem tlbDecides : Obligations.TlbDecides := by
  refine ⟨TlbEntry.hit_iff, fun e pfn a k hk => ?_, fun s w a => ⟨fun h => ?_, fun hs h => ?_, fun i hs hi ho => ?_,
    fun i j hij hs hi hj => ?_⟩⟩
  · obtain ⟨shift, small⟩ := pageShift_table _ hk
    dsimp only at shift small
    rw [← shift] at small ⊢
    exact ⟨e.pageOf_eq a, toNat_pageAddress small pfn a⟩
  · exact State.tlbTranslate_none (State.tlbHits_shutdown h) w
  · exact State.tlbTranslate_none (State.tlbHits_none hs h) w
  · exact State.tlbTranslate_one (State.tlbHits_one hs hi ho) w
  · exact State.tlbTranslate_several hij ((State.mem_tlbHits hs i).mpr hi) ((State.mem_tlbHits hs j).mpr hj) w

end Sys2Proof.Machine
end

section
/-! PROOFS. TLBWI, TLBWR and TLBR: the entry and the registers, field by field. -/
namespace Sys2Proof.Machine

/-! ### What TLBR loads -/

/-- EntryLo as TLBR loads it: its fields in order (R436). -/
theorem TlbPage.entryLo_eq_append (p : TlbPage) (g : Bool) : p.entryLo g =
    ((((0 : BitVec 36) ++ p.pfn) ++ p.c) ++ BitVec.ofBool p.d) ++ BitVec.ofBool p.v ++ BitVec.ofBool g := by
  apply BitVec.eq_of_getLsbD_eq
  intro i hi
  simp only [TlbPage.entryLo, BitVec.truncate_eq_setWidth, BitVec.getLsbD_or, BitVec.getLsbD_shiftLeft, BitVec.getLsbD_setWidth,
    getLsbD_ite_zero, BitVec.getLsbD_append]
  interval_cases i <;> simp

/-- EntryHi as TLBR loads it: its fields in order (R436). -/
theorem TlbEntry.entryHi_eq_append (e : TlbEntry) : e.entryHi =
    (((e.r ++ (0 : BitVec 22)) ++ (e.vpn2 &&& ~~~(e.mask.setWidth 29))) ++ (0 : BitVec 3)) ++ e.asid := by
  apply BitVec.eq_of_getLsbD_eq
  intro i hi
  simp only [TlbEntry.entryHi, maskVpn2, BitVec.truncate_eq_setWidth, BitVec.getLsbD_or, BitVec.getLsbD_shiftLeft,
    BitVec.getLsbD_setWidth, BitVec.getLsbD_append]
  interval_cases i <;> simp

/-- PageMask as TLBR loads it (R34, R436). -/
theorem pageMask_eq_append (mask : Byte) : mask.zeroExtend 32 <<< 11 = ((0 : BitVec 13) ++ mask) ++ (0 : BitVec 11) := by
  apply BitVec.eq_of_getLsbD_eq
  intro i hi
  simp only [BitVec.truncate_eq_setWidth, BitVec.getLsbD_shiftLeft, BitVec.getLsbD_setWidth, BitVec.getLsbD_append]
  interval_cases i <;> simp

/-! ### An entry read back -/

/-- PageMask read back. -/
theorem pageMask_readBack {v : Word} (h : v &&& 0xFFF8_07FF = 0) : (v.extractLsb' 11 8).zeroExtend 32 <<< 11 = v := by
  rw [field_extractLsb']
  exact and_eq_self_of_reserved h (by decide)

/-- EntryLo of a page that an EntryLo register describes: the register's fields, and the global bit of the entry. -/
theorem entryLo_pageOfEntryLo (v : Dword) (g : Bool) :
    (pageOfEntryLo v).entryLo g = (v &&& 0x0FFF_FFFE) ||| (if g then 1 else 0) := by
  rw [TlbPage.entryLo_eq_append]
  apply BitVec.eq_of_getLsbD_eq
  intro i hi
  simp only [pageOfEntryLo, BitVec.getLsbD_append, BitVec.getLsbD_or, BitVec.getLsbD_and, getLsbD_ite_zero]
  interval_cases i <;> simp

/-- EntryLo read back: bit 0 is the entry's global bit, which the register need not have. -/
theorem entryLo_readBack {v : Dword} (h : v &&& 0xFFFF_FFFF_F000_0000 = 0) {g : Bool} (hg : g = true → v.getLsbD 0 = true) :
    (pageOfEntryLo v).entryLo g = if g then v else v &&& ~~~1 := by
  have kept : v &&& 0x0FFF_FFFF = v := and_eq_self_of_reserved h (by decide)
  rw [entryLo_pageOfEntryLo]
  cases g with
  | false =>
    simp only [Bool.false_eq_true, if_false]
    calc v &&& 0x0FFF_FFFE ||| 0 = v &&& (0x0FFF_FFFF &&& ~~~1) := BitVec.or_zero
      _ = v &&& ~~~1 := by rw [← BitVec.and_assoc, kept]
  | true =>
    have one : v &&& 1 = 1 := by
      refine BitVec.and_one_eq_setWidth_ofBool_getLsbD.trans ?_
      rw [hg rfl]; rfl
    simp only [if_true]
    calc v &&& 0x0FFF_FFFE ||| 1 = v &&& 0x0FFF_FFFE ||| v &&& 1 := by rw [one]
      _ = v &&& (0x0FFF_FFFE ||| 1) := BitVec.and_or_distrib_left.symm
      _ = v := kept

/-- EntryHi read back: without the masked bits of VPN2. -/
theorem entryHi_entry {p : Cp0} (h : p.entryHi &&& 0x3FFF_FF00_0000_0700 = 0) :
    p.entry.entryHi = p.entryHi &&& ~~~(p.maskField.setWidth 64 <<< 11) := by
  rw [TlbEntry.entryHi_eq_append, Cp0.entry, maskVpn2]
  have kept := and_eq_self_of_reserved (m := 0xC000_00FF_FFFF_F8FF) h (by decide)
  generalize p.maskField = mask
  rw [← kept]
  generalize p.entryHi = v
  apply BitVec.eq_of_getLsbD_eq
  intro i hi
  simp only [BitVec.truncate_eq_setWidth, BitVec.getLsbD_append, BitVec.getLsbD_and, BitVec.getLsbD_extractLsb',
    BitVec.getLsbD_not, BitVec.getLsbD_shiftLeft, BitVec.getLsbD_setWidth]
  interval_cases i <;> simp

/-! ### TLBWI, TLBWR and TLBR -/

section
variable {s : State}

/-- The entry that Index selects: its bits 4:0. -/
theorem Cp0.indexField_toNat (p : Cp0) : p.indexField.toNat = (Fin.ofNat 32 p.index.toNat).val := by
  rw [Cp0.indexField, BitVec.extractLsb'_toNat]; rfl

theorem exec_tlbwi (h : s.cop0Usable = true) : exec .tlbwi s = s.writeTlb s.cp0.indexField := by
  apply State.needCop0_of h

theorem exec_tlbwr (h : s.cop0Usable = true) : exec .tlbwr s = s.writeTlb s.cp0.random := by
  apply State.needCop0_of h

theorem exec_tlbr (h : s.cop0Usable = true) :
    exec .tlbr s = .next { s with cp0 := s.cp0.loadEntry s.tlb[Fin.ofNat 32 s.cp0.index.toNat] }.retire := by
  have entry : s.tlb[s.cp0.indexField.toNat]'(s.cp0.indexField.isLt) = s.tlb[Fin.ofNat 32 s.cp0.index.toNat] := by
    simp only [Fin.getElem_fin, s.cp0.indexField_toNat]
  rw [← entry]
  apply State.needCop0_of h

/-- All that TLBR does; `q` are the registers as they are loaded. -/
theorem exec_tlbr_spec (h : s.cop0Usable = true) {q : Cp0} (hq : s.cp0.loadEntry s.tlb[Fin.ofNat 32 s.cp0.index.toNat] = q) :
    ∃ t, exec .tlbr s = .next t ∧ (SameRegisters s t ∧ t.hi = s.hi ∧ t.lo = s.lo ∧ t.free = s.free ∧ SameMemory s t ∧
      SameOutsideCore { s with tlb := t.tlb } t) ∧ t.tlb = s.tlb ∧ t.pc = s.nextPc ∧ t.slot = .normal ∧
      t.cp0 = { q with random := s.cp0.nextRandom } := by
  subst hq
  exact ⟨_, exec_tlbr h, ⟨fun _ => rfl, rfl, rfl, rfl, fun _ => rfl, rfl⟩, rfl, rfl, rfl, rfl⟩

theorem State.writeTlb_defined (h : pageMaskDefined s.cp0.maskField = true) (i : BitVec 5) :
    s.writeTlb i = .next { s with tlb := s.tlb.set i.toNat s.cp0.entry i.isLt }.retire := if_pos h

theorem State.writeTlb_undefined (h : pageMaskDefined s.cp0.maskField = false) (i : BitVec 5) :
    s.writeTlb i = .fault .undefinedPageMask := by
  simp [State.writeTlb, h]

/-- After TLBWI the entry that Index selects is the one that the registers have described. -/
theorem exec_tlbwi_next (hu : s.cop0Usable = true) (hm : pageMaskDefined s.cp0.maskField = true) {t : State}
    (ht : exec .tlbwi s = .next t) :
    t.cop0Usable = true ∧ t.tlb[Fin.ofNat 32 t.cp0.index.toNat] = s.cp0.entry := by
  rw [exec_tlbwi hu, State.writeTlb_defined hm] at ht
  obtain rfl := Host.Outcome.next.inj ht
  refine ⟨hu, ?_⟩
  simp only [Fin.getElem_fin, State.retire_tlb, State.retire_cp0, ← s.cp0.indexField_toNat, Vector.getElem_set_self]

/-- The registers that TLBR loads, with every field in its place. -/
theorem Cp0.loadEntry_eq (p : Cp0) (e : TlbEntry) : p.loadEntry e = { p with
    pageMask := ((0 : BitVec 13) ++ e.mask) ++ (0 : BitVec 11)
    entryHi := (((e.r ++ (0 : BitVec 22)) ++ (e.vpn2 &&& ~~~(e.mask.setWidth 29))) ++ (0 : BitVec 3)) ++ e.asid
    entryLo0 := ((((0 : BitVec 36) ++ e.page0.pfn) ++ e.page0.c) ++ BitVec.ofBool e.page0.d) ++ BitVec.ofBool e.page0.v ++
      BitVec.ofBool e.g
    entryLo1 := ((((0 : BitVec 36) ++ e.page1.pfn) ++ e.page1.c) ++ BitVec.ofBool e.page1.d) ++ BitVec.ofBool e.page1.v ++
      BitVec.ofBool e.g } := by
  rw [Cp0.loadEntry, pageMask_eq_append, TlbEntry.entryHi_eq_append, TlbPage.entryLo_eq_append, TlbPage.entryLo_eq_append]

/-- The registers that TLBR loads from an entry that the registers `p` have described: what was written, EntryHi without the
masked bits, and in both EntryLo the common global bit. -/
theorem Cp0.loadEntry_entry (q : Cp0) {p : Cp0} (h : p.reservedZero = true) : q.loadEntry p.entry = { q with
    pageMask := p.pageMask
    entryHi := p.entryHi &&& ~~~(p.maskField.setWidth 64 <<< 11)
    entryLo0 := if p.entryLo0.getLsbD 0 && p.entryLo1.getLsbD 0 then p.entryLo0 else p.entryLo0 &&& ~~~1
    entryLo1 := if p.entryLo0.getLsbD 0 && p.entryLo1.getLsbD 0 then p.entryLo1 else p.entryLo1 &&& ~~~1 } := by
  simp only [Cp0.reservedZero, Bool.and_eq_true, beq_iff_eq, and_assoc] at h
  obtain ⟨-, lo0, lo1, -, mask, hi, -⟩ := h
  have common : (p.entryLo0.getLsbD 0 && p.entryLo1.getLsbD 0) = true → p.entryLo0.getLsbD 0 = true ∧ p.entryLo1.getLsbD 0 = true :=
    (Bool.and_eq_true _ _).mp
  have pageMask : p.entry.mask.zeroExtend 32 <<< 11 = p.pageMask := pageMask_readBack mask
  rw [← entryHi_entry hi, ← entryLo_readBack lo0 fun hg => (common hg).1, ← entryLo_readBack lo1 fun hg => (common hg).2,
    Cp0.loadEntry, pageMask]
  rfl

end

/-- Settles O50: TLBWI and TLBWR set one element of the TLB, and TLBR loads the fields of one. -/
theorem tlbWriteThenRead : Obligations.TlbWriteThenRead := by
  intro s hu same mask page entry writes index entryLo reads
  have write {i : Instr} {n : BitVec 5} (run : exec i s = s.writeTlb n) (hm : pageMaskDefined mask = true) : writes i n.toNat := by
    refine ⟨_, run.trans (State.writeTlb_defined hm n), ⟨fun _ => rfl, rfl, rfl, rfl, fun _ => rfl, rfl⟩,
      State.retire_retired rfl rfl rfl, fun j => ?_⟩
    exact (Vector.getElem_set n.isLt j.isLt).trans (if_congr eq_comm rfl rfl)
  refine ⟨fun hm => ⟨?_, write (exec_tlbwr hu) hm⟩, fun hm => ⟨?_, ?_⟩, exec_tlbr_spec hu (Cp0.loadEntry_eq _ _),
    fun hm hz t ht => ?_⟩
  · rw [← s.cp0.indexField_toNat]
    exact write (exec_tlbwi hu) hm
  · exact (exec_tlbwi hu).trans (State.writeTlb_undefined hm _)
  · exact (exec_tlbwr hu).trans (State.writeTlb_undefined hm _)
  · obtain ⟨usable, selected⟩ := exec_tlbwi_next hu hm ht
    exact exec_tlbr_spec usable ((congrArg _ selected).trans (Cp0.loadEntry_entry t.cp0 hz))

end Sys2Proof.Machine
end

section
/-! PROOFS. The operations of CACHE that need no bus: each writes one line, TagLo, or nothing. -/
namespace Sys2Proof.Machine

variable {s : State}

/-! ### Lines of the caches -/

theorem State.dLine_setDLine_same (h : s.canonical = true) (i : Nat) (l : DLine) : (s.setDLine i l).dLine i = l :=
  have wf := ((s.canonical_iff.mp h).2.1).1
  cellGet_cellSet_same wf

theorem State.dLine_setDLine_ne (s : State) {i j : Nat} (h : j ≠ i) (l : DLine) : (s.setDLine i l).dLine j = s.dLine j :=
  cellGet_cellSet_ne h

theorem State.iLine_setILine_same (h : s.canonical = true) (i : Nat) (l : ILine) : (s.setILine i l).iLine i = l :=
  have wf := ((s.canonical_iff.mp h).2.1).2.2.1
  cellGet_cellSet_same wf

theorem State.iLine_setILine_ne (s : State) {i j : Nat} (h : j ≠ i) (l : ILine) : (s.setILine i l).iLine j = s.iLine j :=
  cellGet_cellSet_ne h

/-- A line that is not dirty is not written back. -/
theorem State.writeBackDirty_clean {i : Nat} (h : ¬ ((s.dLine i).v = true ∧ (s.dLine i).w = true)) : s.writeBackDirty i = s := by
  rw [State.writeBackDirty]
  exact if_neg (by simpa using h)

/-! ### The fields of TagLo -/

/-- TagLo for an instruction cache line: PTag, V, and zeros (R60, R444). -/
theorem ILine.tagLo_fields (l : ILine) :
    l.tagLo.extractLsb' 10 22 = l.ptag ∧ l.tagLo.getLsbD 9 = l.v ∧ l.tagLo.extractLsb' 0 9 = 0#9 := by
  have bit (i : Nat) : l.tagLo.getLsbD i =
      ((if i < 10 then (0 : BitVec 10).getLsbD i else l.ptag.getLsbD (i - 10)) || l.v && (0x200 : Word).getLsbD i) := by
    rw [ILine.tagLo, BitVec.getLsbD_or, getLsbD_ite_zero, BitVec.getLsbD_append]
  refine ⟨?_, by rw [bit]; simp, ?_⟩
  all_goals
    apply BitVec.eq_of_getLsbD_eq
    intro i hi
    rw [BitVec.getLsbD_extractLsb', bit]
    interval_cases i <;> simp

/-- TagLo for a data cache line: PTag, V, D, W, and zeros (R60, R444). -/
theorem DLine.tagLo_fields (l : DLine) :
    l.tagLo.extractLsb' 10 22 = l.ptag ∧ l.tagLo.getLsbD 9 = l.v ∧ l.tagLo.getLsbD 8 = l.d ∧ l.tagLo.getLsbD 7 = l.w ∧
      l.tagLo.extractLsb' 0 7 = 0#7 := by
  have bit (i : Nat) : l.tagLo.getLsbD i =
      ((if i < 10 then (0 : BitVec 10).getLsbD i else l.ptag.getLsbD (i - 10)) || l.v && (0x200 : Word).getLsbD i ||
        l.d && (0x100 : Word).getLsbD i || l.w && (0x080 : Word).getLsbD i) := by
    simp only [DLine.tagLo, BitVec.getLsbD_or, getLsbD_ite_zero, BitVec.getLsbD_append]
  refine ⟨?_, by rw [bit]; simp, by rw [bit]; simp, by rw [bit]; simp, ?_⟩
  all_goals
    apply BitVec.eq_of_getLsbD_eq
    intro i hi
    rw [BitVec.getLsbD_extractLsb', bit]
    interval_cases i <;> simp

/-! ### One operation -/

/-- `s` with other contents of the caches and of TagLo. -/
def State.withCaches (s : State) (icache : List (Nat × ILine)) (dcache : List (Nat × DLine)) (tagLo : Word) : State :=
  { s with icache := icache, dcache := dcache, cp0 := { s.cp0 with tagLo := tagLo } }

/-- CACHE runs the operation where CP0 is usable and the address is aligned and translates to a cached target (R440). -/
theorem exec_cache {base : Reg} {offset : Half} {pa : PAddr} (op : BitVec 5) (hu : s.cop0Usable = true)
    (ha : (s.getReg base + offset.signExtend 64).toNat % 4 = 0)
    (ht : s.translate false (s.getReg base + offset.signExtend 64) = .ok { pa := pa, cached := true } s) :
    exec (.cache op base offset) s = (s.cacheOp op (s.getReg base + offset.signExtend 64) pa).finish := by
  have effect : s.cacheEffect op (s.getReg base + offset.signExtend 64) =
      s.cacheOp op (s.getReg base + offset.signExtend 64) pa := by
    rw [State.cacheEffect, if_neg (not_not.mpr ha), ht, Res.bind_ok]
    rfl
  refine .trans (b := (s.cacheEffect op (s.effectiveAddress base offset)).finish) ?_ (congrArg Res.finish effect)
  apply State.needCop0_of hu

/-- Create_Dirty_Exclusive writes the line without a write-back where it hits or the line is not dirty (R446). -/
theorem State.createDirtyExclusive_noBus {va : Dword} {pa : PAddr}
    (h : (s.dLine (dIndex va)).hit pa = true ∨ ¬ ((s.dLine (dIndex va)).v = true ∧ (s.dLine (dIndex va)).w = true)) :
    s.createDirtyExclusive va pa =
      .ok () (s.setDLine (dIndex va) { s.dLine (dIndex va) with ptag := tagOf pa, v := true, w := true }) := by
  have same : (if (s.dLine (dIndex va)).hit pa then s else s.writeBackDirty (dIndex va)) = s := by
    split
    next => rfl
    next miss => exact State.writeBackDirty_clean (h.resolve_left miss)
  rw [State.createDirtyExclusive, same]

/-- Index_Write_Back_Invalidate of a line that is not dirty (R443). -/
theorem State.indexWriteBackInvalidateD_clean {va : Dword}
    (h : ¬ ((s.dLine (dIndex va)).v = true ∧ (s.dLine (dIndex va)).w = true)) :
    s.indexWriteBackInvalidateD va = .ok () (s.setDLine (dIndex va) { s.dLine (dIndex va) with v := false, w := false }) := by
  rw [State.indexWriteBackInvalidateD, State.writeBackDirty_clean h]

theorem DLine.clearW_of_clean {l : DLine} (h : l.w = false) : { l with w := false } = l := by
  rw [← h]

/-- Hit_Write_Back_Invalidate of a clean line (R448). -/
theorem State.hitWriteBackInvalidateD_clean {va : Dword} {pa : PAddr} (hit : (s.dLine (dIndex va)).hit pa = true)
    (h : (s.dLine (dIndex va)).w = false) :
    s.hitWriteBackInvalidateD va pa = .ok () (s.setDLine (dIndex va) { s.dLine (dIndex va) with v := false }) := by
  rw [State.hitWriteBackInvalidateD, if_pos hit, State.indexWriteBackInvalidateD_clean (by simp [h])]
  exact congrArg (fun l => Res.ok () (s.setDLine (dIndex va) l)) (DLine.clearW_of_clean (l := { s.dLine (dIndex va) with v := false }) h)

/-- Hit_Write_Back of a clean line (R450). -/
theorem State.hitWriteBackD_clean {va : Dword} {pa : PAddr} (hit : (s.dLine (dIndex va)).hit pa = true)
    (h : (s.dLine (dIndex va)).w = false) :
    s.hitWriteBackD va pa = .ok () (s.setDLine (dIndex va) (s.dLine (dIndex va))) := by
  rw [State.hitWriteBackD, if_pos hit, State.writeBackDirty_clean (by simp [h])]
  exact congrArg (fun l => Res.ok () (s.setDLine (dIndex va) l)) (DLine.clearW_of_clean h)

/-- The operations that the table leaves out do nothing (R451, D37). -/
theorem State.cacheOp_undefined (s : State) (va : Dword) (pa : PAddr) :
    ∀ op ∈ ([2, 3, 6, 7, 10, 11, 12, 14, 15, 18, 19, 22, 23, 26, 27, 28, 29, 30, 31] : List (BitVec 5)),
      s.cacheOp op va pa = .ok () s := by
  intro op h
  fin_cases h <;> rfl

/-- The Hit operations that miss do nothing (R447, R448, R450). -/
theorem State.cacheOp_dataMiss {va : Dword} {pa : PAddr} (h : (s.dLine (dIndex va)).hit pa = false) :
    ∀ op ∈ ([17, 21, 25] : List (BitVec 5)), s.cacheOp op va pa = .ok () s := by
  have miss (x : Res Unit) : (if (s.dLine (dIndex va)).hit pa then x else .ok () s) = .ok () s :=
    if_neg (Bool.not_eq_true _ ▸ h)
  intro op hop
  fin_cases hop <;> exact miss _

theorem State.cacheOp_instructionMiss {va : Dword} {pa : PAddr} (h : (s.iLine (iIndex va)).hit pa = false) :
    ∀ op ∈ ([16, 24] : List (BitVec 5)), s.cacheOp op va pa = .ok () s := by
  have miss : ¬ (s.iLine (iIndex va)).hit pa = true := Bool.not_eq_true _ ▸ h
  intro op hop
  fin_cases hop
  · exact if_neg miss
  · exact congrArg (Res.ok ()) (if_neg miss)

/-- Settles O54: each operation leaves `s` with one line written, with TagLo loaded, or as it was. -/
theorem cacheOperationsWithoutBus : Obligations.CacheOperationsWithoutBus := by
  intro base offset s pa va hu hc ha ht d i tag done keepsTag dataLine nothing dirty
  have completes {op : BitVec 5} {ic : List (Nat × ILine)} {dc : List (Nat × DLine)} {tagLo : Word}
      (h : s.cacheOp op va pa = .ok () (s.withCaches ic dc tagLo)) : done op (s.withCaches ic dc tagLo).retire :=
    ⟨(exec_cache op hu ha ht).trans (congrArg Res.finish h), fun _ => rfl, rfl, rfl, rfl, fun _ => rfl, rfl, rfl, rfl, rfl⟩
  have instructionDone {op : BitVec 5} {l : ILine} (h : s.cacheOp op va pa = .ok () (s.setILine (iIndex va) l)) :
      ∃ t, done op t ∧ t.iLine (iIndex va) = l ∧ (∀ j, j ≠ iIndex va → t.iLine j = s.iLine j) ∧ t.dcache = s.dcache ∧
        keepsTag t :=
    ⟨_, completes h, State.iLine_setILine_same hc _ l, fun _ hj => State.iLine_setILine_ne s hj l, rfl, rfl⟩
  have dataDone {op : BitVec 5} {l : DLine} (h : s.cacheOp op va pa = .ok () (s.setDLine (dIndex va) l)) :
      ∃ t, done op t ∧ dataLine t l :=
    ⟨_, completes h, State.dLine_setDLine_same hc _ l, fun _ hj => State.dLine_setDLine_ne s hj l, rfl, rfl⟩
  have nothingDone {op : BitVec 5} (h : s.cacheOp op va pa = .ok () s) : ∃ t, done op t ∧ nothing t :=
    ⟨_, completes (ic := s.icache) (dc := s.dcache) (tagLo := s.cp0.tagLo) h, rfl, rfl, rfl⟩
  refine ⟨instructionDone rfl, ⟨_, completes rfl, ?_⟩, ⟨_, completes rfl, ?_⟩, instructionDone rfl, dataDone rfl,
    fun hit => instructionDone (if_pos hit), fun miss op hop => nothingDone (State.cacheOp_instructionMiss miss op hop),
    fun clean => dataDone (State.indexWriteBackInvalidateD_clean clean), fun h => dataDone (State.createDirtyExclusive_noBus h),
    fun hit => dataDone (if_pos hit), fun hit hw => ⟨?_, ?_⟩, fun miss op hop => nothingDone (State.cacheOp_dataMiss miss op hop),
    fun op hop => nothingDone (s.cacheOp_undefined va pa op hop)⟩
  · obtain ⟨ptag, v, low⟩ := i.tagLo_fields
    exact ⟨ptag, v, low, rfl, rfl⟩
  · obtain ⟨ptag, v, dBit, w, low⟩ := d.tagLo_fields
    exact ⟨ptag, v, dBit, w, low, rfl, rfl⟩
  · exact dataDone (State.hitWriteBackInvalidateD_clean hit hw)
  · exact dataDone (State.hitWriteBackD_clean hit hw)

end Sys2Proof.Machine
end

section
/-! PROOFS. Address translation: the segments of every mode as ranges of addresses, and the offset that no translation touches. -/
namespace Sys2Proof.Machine

variable {s : State} {w : Bool} {a : Dword}

/-! ### Fields of an address as numbers -/

theorem toNat_extractLsb' {v n : Nat} (b : BitVec v) (k : Nat) : (b.extractLsb' k n).toNat = b.toNat / 2 ^ k % 2 ^ n := by
  rw [BitVec.extractLsb'_toNat, Nat.shiftRight_eq_div_pow]

theorem extractLsb'_eq_iff {v n : Nat} (b : BitVec v) (k : Nat) (c : BitVec n) :
    b.extractLsb' k n = c ↔ b.toNat / 2 ^ k % 2 ^ n = c.toNat := by
  rw [← BitVec.toNat_inj, toNat_extractLsb']

theorem extractLsb'_eq_zero_iff {v : Nat} (b : BitVec v) (k n : Nat) :
    b.extractLsb' k n = 0 ↔ b.toNat / 2 ^ k % 2 ^ n = 0 := extractLsb'_eq_iff b k 0#n

theorem segment_eq (a : Dword) : segment a = a.toNat / 2 ^ 29 % 8 := toNat_extractLsb' a 29

theorem toNat_unmappedAddress (a : Dword) : (unmappedAddress a).toNat = a.toNat % 2 ^ 29 := by
  rw [unmappedAddress, BitVec.zeroExtend, BitVec.toNat_setWidth, toNat_extractLsb']
  omega

theorem toNat_low32 (a : Dword) : (low32 a).toNat = a.toNat % 2 ^ 32 := BitVec.toNat_setWidth ..

/-- An address of kseg0 or kseg1 is its physical address above the start of the segment (R109). -/
theorem unmappedAddress_eq {n : Nat} (h : a.toNat % 2 ^ 29 = n) : unmappedAddress a = BitVec.ofNat 32 n := by
  apply BitVec.eq_of_toNat_eq
  rw [toNat_unmappedAddress, BitVec.toNat_ofNat]
  omega

theorem low32_eq {n : Nat} (h : a.toNat % 2 ^ 32 = n) : low32 a = BitVec.ofNat 32 n := by
  apply BitVec.eq_of_toNat_eq
  rw [toNat_low32, BitVec.toNat_ofNat]
  omega

/-! ### Translation by class -/

theorem State.translate_error (h : s.classify a = .error) : s.translate w a = .raise (.addressError w a) s := by
  rw [State.translate, h]

theorem State.translate_mapped (h : s.classify a = .mapped) : s.translate w a = s.tlbTranslate w a := by
  rw [State.translate, h]

theorem State.translate_unmapped {pa : PAddr} {cached : Bool} (h : s.classify a = .unmapped pa cached) :
    s.translate w a = .ok { pa := pa, cached := cached } s := by
  rw [State.translate, h]

/-! ### Classification with 32-bit addressing -/

section
variable (signed : a = sext32 (low32 a))
include signed

theorem State.classify32_kuseg (h : segment a < 4) :
    s.classify32 a = if s.mode = .kernel ∧ s.erl then .unmapped (low32 a) false else .mapped := by
  rw [State.classify32, if_neg (not_not.mpr signed)]
  split <;> first | omega | rfl

theorem State.classify32_kseg0 (h : segment a = 4) :
    s.classify32 a = if s.mode = .kernel then .unmapped (unmappedAddress a) s.kseg0Cached else .error := by
  rw [State.classify32, if_neg (not_not.mpr signed), h]
  rfl

theorem State.classify32_kseg1 (h : segment a = 5) :
    s.classify32 a = if s.mode = .kernel then .unmapped (unmappedAddress a) false else .error := by
  rw [State.classify32, if_neg (not_not.mpr signed), h]
  rfl

theorem State.classify32_ksseg (h : segment a = 6) :
    s.classify32 a = if s.mode = .user then .error else .mapped := by
  rw [State.classify32, if_neg (not_not.mpr signed), h]
  rfl

theorem State.classify32_kseg3 (h : segment a = 7) :
    s.classify32 a = if s.mode = .kernel then .mapped else .error := by
  rw [State.classify32, if_neg (not_not.mpr signed), h]
  rfl

end

/-! ### Classification with 64-bit addressing, by the region in bits 63:62 -/

theorem State.classify64_region0 (h : a.toNat < 2 ^ 62) : s.classify64 a =
    if 2 ^ 40 ≤ a.toNat then .error
    else if s.mode = .kernel ∧ s.erl ∧ a.toNat < 2 ^ 31 then .unmapped (low32 a) false else .mapped := by
  have region : (a.extractLsb' 62 2).toNat = 0 := by rw [toNat_extractLsb']; omega
  simp only [State.classify64, region]
  have high : a.extractLsb' 40 22 ≠ (0 : BitVec 22) ↔ 2 ^ 40 ≤ a.toNat := by rw [Ne, extractLsb'_eq_zero_iff]; omega
  refine ite_congr (propext high) (fun _ => rfl) fun low => if_congr (and_congr_right fun _ => and_congr_right fun _ => ?_) rfl rfl
  rw [extractLsb'_eq_zero_iff]; omega

theorem State.classify64_region1 (h : 2 ^ 62 ≤ a.toNat) (h' : a.toNat < 2 ^ 63) : s.classify64 a =
    if s.mode = .user ∨ 2 ^ 62 + 2 ^ 40 ≤ a.toNat then .error else .mapped := by
  have region : (a.extractLsb' 62 2).toNat = 1 := by rw [toNat_extractLsb']; omega
  simp only [State.classify64, region]
  refine if_congr (or_congr_right ?_) rfl rfl
  rw [Ne, extractLsb'_eq_zero_iff]; omega

theorem State.classify64_region2 (h : 2 ^ 63 ≤ a.toNat) (h' : a.toNat < 2 ^ 63 + 2 ^ 62) : s.classify64 a =
    if s.mode ≠ .kernel ∨ 2 ^ 32 ≤ a.toNat % 2 ^ 59 then .error
    else .unmapped (low32 a) (a.toNat / 2 ^ 59 != 18) := by
  have region : (a.extractLsb' 62 2).toNat = 2 := by rw [toNat_extractLsb']; omega
  have cached : (a.extractLsb' 59 3 != (0b010 : BitVec 3)) = (a.toNat / 2 ^ 59 != 18) := by
    have two : a.extractLsb' 59 3 = (0b010 : BitVec 3) ↔ a.toNat / 2 ^ 59 % 2 ^ 3 = 2 := extractLsb'_eq_iff a 59 2
    rw [Bool.eq_iff_iff, bne_iff_ne, bne_iff_ne, Ne, two]; omega
  simp only [State.classify64, region, cached]
  refine if_congr (or_congr_right ?_) rfl rfl
  rw [Ne, extractLsb'_eq_zero_iff]; omega

theorem State.classify64_region3 (h : 2 ^ 63 + 2 ^ 62 ≤ a.toNat) : s.classify64 a =
    if s.mode = .user then .error
    else if 0xFFFF_FFFF_8000_0000 ≤ a.toNat then s.classifyCompat a
    else if s.mode = .kernel ∧ a.toNat < 0xC000_00FF_8000_0000 then .mapped else .error := by
  have lt : a.toNat < 2 ^ 64 := a.isLt
  have region : (a.extractLsb' 62 2).toNat = 3 := by rw [toNat_extractLsb']; omega
  have high : a.extractLsb' 40 22 = (0 : BitVec 22) ↔ a.toNat / 2 ^ 40 % 2 ^ 22 = 0 := extractLsb'_eq_iff a 40 0
  have top : a.extractLsb' 31 9 = (0x1FF : BitVec 9) ↔ a.toNat / 2 ^ 31 % 2 ^ 9 = 0x1FF := extractLsb'_eq_iff a 31 0x1FF
  have ones : a.extractLsb' 31 31 = (0x7FFF_FFFF : BitVec 31) ↔ a.toNat / 2 ^ 31 % 2 ^ 31 = 0x7FFF_FFFF :=
    extractLsb'_eq_iff a 31 0x7FFF_FFFF
  simp only [State.classify64, region]
  refine if_congr Iff.rfl rfl (if_congr ?_ rfl (if_congr (and_congr_right fun _ => ?_) rfl rfl))
  · rw [ones]; omega
  · rw [high, Ne, top]; omega

theorem State.classify64_compat (h : 0xFFFF_FFFF_8000_0000 ≤ a.toNat) (hu : s.mode ≠ .user) :
    s.classify64 a = s.classifyCompat a :=
  (State.classify64_region3 (by omega)).trans ((if_neg hu).trans (if_pos h))

theorem State.classify64_xkseg (h : 2 ^ 63 + 2 ^ 62 ≤ a.toNat) (h' : a.toNat < 0xFFFF_FFFF_8000_0000) (hu : s.mode ≠ .user) :
    s.classify64 a = if s.mode = .kernel ∧ a.toNat < 0xC000_00FF_8000_0000 then .mapped else .error :=
  (State.classify64_region3 h).trans ((if_neg hu).trans (if_neg (by omega)))

/-- User mode has the user segment only (R106). -/
theorem State.classify64_user (hu : s.mode = .user) (h : 2 ^ 62 ≤ a.toNat) : s.classify64 a = .error := by
  rcases Nat.lt_or_ge a.toNat (2 ^ 63) with h1 | h1
  · exact (State.classify64_region1 h h1).trans (if_pos (.inl hu))
  · rcases Nat.lt_or_ge a.toNat (2 ^ 63 + 2 ^ 62) with h2 | h2
    · exact (State.classify64_region2 h1 h2).trans (if_pos (.inl (by rw [hu]; decide)))
    · exact (State.classify64_region3 h2).trans (if_pos hu)

/-! ### The compatibility segments (R108, R110) -/

theorem State.classifyCompat_kseg0 (h : segment a = 4) :
    s.classifyCompat a = if s.mode = .kernel then .unmapped (unmappedAddress a) s.kseg0Cached else .error := by
  rw [State.classifyCompat, h]
  rfl

theorem State.classifyCompat_kseg1 (h : segment a = 5) :
    s.classifyCompat a = if s.mode = .kernel then .unmapped (unmappedAddress a) false else .error := by
  rw [State.classifyCompat, h]
  rfl

theorem State.classifyCompat_ksseg (h : segment a = 6) : s.classifyCompat a = .mapped := by
  rw [State.classifyCompat, h]
  rfl

theorem State.classifyCompat_kseg3 (h : segment a = 7) :
    s.classifyCompat a = if s.mode = .kernel then .mapped else .error := by
  rw [State.classifyCompat, h]
  rfl

/-- Supervisor mode has none of the segments from xkphys up to kseg1 (R108). -/
theorem State.classify64_supervisor (hm : s.mode = .supervisor) (h : 2 ^ 63 ≤ a.toNat) (h' : a.toNat < 0xFFFF_FFFF_C000_0000) :
    s.classify64 a = .error := by
  have hu : s.mode ≠ .user := by rw [hm]; decide
  have hk : s.mode ≠ .kernel := by rw [hm]; decide
  rcases Nat.lt_or_ge a.toNat (2 ^ 63 + 2 ^ 62) with h1 | h1
  · exact (State.classify64_region2 h h1).trans (if_pos (.inl hk))
  · rcases Nat.lt_or_ge a.toNat 0xFFFF_FFFF_8000_0000 with h2 | h2
    · exact (State.classify64_xkseg h1 h2 hu).trans (if_neg fun c => hk c.1)
    · refine (State.classify64_compat h2 hu).trans ?_
      rcases Nat.lt_or_ge a.toNat 0xFFFF_FFFF_A000_0000 with h3 | h3
      · exact (State.classifyCompat_kseg0 (by rw [segment_eq]; omega)).trans (if_neg hk)
      · exact (State.classifyCompat_kseg1 (by rw [segment_eq]; omega)).trans (if_neg hk)

/-! ### All segments -/

/-- What follows from each branch of a choice follows by the choice's condition. -/
theorem ite_of_eq_ite {α : Type} {c : Prop} [Decidable c] {P Q : Prop} {z x y : α} (e : z = if c then x else y)
    (hx : z = x → P) (hy : z = y → Q) : if c then P else Q := by
  split
  next h => exact hx (e.trans (if_pos h))
  next h => exact hy (e.trans (if_neg h))

/-- The lowest segment, which Kernel mode with ERL = 1 uses without the TLB (R112). -/
theorem State.translate_lowest {n : Nat} (w : Bool) (h : a.toNat % 2 ^ 32 = n)
    (e : s.classify a = if s.mode = .kernel ∧ s.erl then .unmapped (low32 a) false else .mapped) :
    if s.mode = .kernel then
      (if s.erl then s.translate w a = .ok { pa := BitVec.ofNat 32 n, cached := false } s
        else s.translate w a = s.tlbTranslate w a)
    else s.translate w a = s.tlbTranslate w a := by
  rw [low32_eq h, ite_and] at e
  exact ite_of_eq_ite e (fun e => ite_of_eq_ite e State.translate_unmapped State.translate_mapped) State.translate_mapped

/-- Settles O38: the class of the address in each range, and what a translation does with an address of that class. -/
theorem segments : Obligations.Segments := by
  intro s w a tlb error direct k0 a32 n lowest kernel supervisor user
  have lt : a.toNat < 2 ^ 64 := a.isLt
  refine ⟨fun narrow => ?_, fun wide => ?_⟩
  · have by32 {c : AddressClass} (h : s.classify32 a = c) : s.classify a = c := by rw [State.classify, narrow]; exact h
    refine ⟨fun h => State.translate_error (by32 (if_pos h)), fun signed => ⟨?_, ?_, ?_, ?_, ?_⟩⟩
    · intro h
      exact State.translate_lowest w rfl (by32 (State.classify32_kuseg signed (by rw [segment_eq]; omega)))
    · intro l h
      refine ite_of_eq_ite (by32 (State.classify32_kseg0 signed (by rw [segment_eq]; omega))) (fun e => ?_) State.translate_error
      rw [unmappedAddress_eq (n := a32 - 0x8000_0000) (by omega)] at e
      exact State.translate_unmapped e
    · intro l h
      refine ite_of_eq_ite (by32 (State.classify32_kseg1 signed (by rw [segment_eq]; omega))) (fun e => ?_) State.translate_error
      rw [unmappedAddress_eq (n := a32 - 0xA000_0000) (by omega)] at e
      exact State.translate_unmapped e
    · intro l h
      exact ite_of_eq_ite (by32 (State.classify32_ksseg signed (by rw [segment_eq]; omega))) State.translate_error
        State.translate_mapped
    · intro l
      exact ite_of_eq_ite (by32 (State.classify32_kseg3 signed (by rw [segment_eq]; omega))) State.translate_mapped
        State.translate_error
  · have by64 {c : AddressClass} (h : s.classify64 a = c) : s.classify a = c := by rw [State.classify, wide]; exact h
    have su (m : supervisor) : s.mode ≠ .user := fun e => nomatch (m : s.mode = .supervisor).symm.trans e
    have sk (m : supervisor) : s.mode ≠ .kernel := fun e => nomatch (m : s.mode = .supervisor).symm.trans e
    have ku (m : kernel) : s.mode ≠ .user := fun e => nomatch (m : s.mode = .kernel).symm.trans e
    refine ⟨?_, ?_, ?_, fun u l => State.translate_error (by64 (State.classify64_user u l)), ?_, ?_,
      fun m l h => State.translate_error (by64 (State.classify64_supervisor m l h)), ?_, ?_, ?_, ?_, ?_, ?_, ?_, ?_⟩
    · intro h
      refine State.translate_lowest w (by omega) (by64 ((State.classify64_region0 (by omega)).trans ((if_neg (by omega)).trans ?_)))
      exact if_congr (and_congr_right fun _ => and_iff_left (by omega)) rfl rfl
    · intro l h
      refine State.translate_mapped (by64 ((State.classify64_region0 (by omega)).trans ((if_neg (by omega)).trans (if_neg ?_))))
      exact fun c => absurd c.2.2 (by omega)
    · intro l h
      exact State.translate_error (by64 ((State.classify64_region0 (by omega)).trans (if_pos (by omega))))
    · intro u l h
      refine State.translate_mapped (by64 ((State.classify64_region1 l (by omega)).trans (if_neg ?_)))
      exact fun c => c.elim u (by omega)
    · intro u l h
      exact State.translate_error (by64 ((State.classify64_region1 (by omega) h).trans (if_pos (.inr (by omega)))))
    · intro m l h
      exact State.translate_mapped (by64 ((State.classify64_compat (by omega) (su m)).trans
        (State.classifyCompat_ksseg (by rw [segment_eq]; omega))))
    · intro m l
      exact State.translate_error (by64 ((State.classify64_compat (by omega) (su m)).trans
        ((State.classifyCompat_kseg3 (by rw [segment_eq]; omega)).trans (if_neg (sk m)))))
    · intro m l h
      have e := by64 (State.classify64_region2 l (by omega))
      split
      next low =>
        rw [if_neg (by rintro (k | k); exacts [k m, by omega]), low32_eq rfl] at e
        exact State.translate_unmapped e
      next high => exact State.translate_error (e.trans (if_pos (.inr (by omega))))
    · intro m l h
      exact State.translate_mapped (by64 ((State.classify64_xkseg (by omega) (by omega) (ku m)).trans (if_pos ⟨m, h⟩)))
    · intro m l h
      exact State.translate_error (by64 ((State.classify64_xkseg (by omega) (by omega) (ku m)).trans
        (if_neg fun c => absurd c.2 (by omega))))
    · intro m l h
      refine State.translate_unmapped (by64 ((State.classify64_compat l (ku m)).trans
        ((State.classifyCompat_kseg0 (by rw [segment_eq]; omega)).trans ((if_pos m).trans ?_))))
      rw [unmappedAddress_eq (n := n - 0xFFFF_FFFF_8000_0000) (by omega)]
      rfl
    · intro m l h
      refine State.translate_unmapped (by64 ((State.classify64_compat (by omega) (ku m)).trans
        ((State.classifyCompat_kseg1 (by rw [segment_eq]; omega)).trans ((if_pos m).trans ?_))))
      rw [unmappedAddress_eq (n := n - 0xFFFF_FFFF_A000_0000) (by omega)]
    · intro m l
      refine State.translate_mapped (by64 ((State.classify64_compat (by omega) (ku m)).trans ?_))
      rcases Nat.lt_or_ge n 0xFFFF_FFFF_E000_0000 with h | h
      · exact State.classifyCompat_ksseg (by rw [segment_eq]; omega)
      · exact (State.classifyCompat_kseg3 (by rw [segment_eq]; omega)).trans (if_pos m)

/-! ### The offset in the smallest page -/

/-- The smallest page has 1 Kbyte: the low ten bits of a physical address are those of the virtual address (R116). -/
theorem pageAddress_low (mask : Byte) (pfn : BitVec 22) (a : Dword) :
    (pageAddress mask pfn a).extractLsb' 0 10 = (a.extractLsb' 0 10 : BitVec 10) := by
  have ones : (BitVec.ofNat 32 (2 ^ (10 + 2 * pageShift mask) - 1)).extractLsb' 0 10 = BitVec.allOnes 10 := by
    apply BitVec.eq_of_getLsbD_eq
    intro i hi
    rw [BitVec.getLsbD_extractLsb', BitVec.getLsbD_ofNat, Nat.testBit_two_pow_sub_one, BitVec.getLsbD_allOnes]
    simp [hi, show i < 32 by omega, show i < 10 + 2 * pageShift mask by omega]
  rw [pageAddress, extractLsb'_merge_new ones]
  apply BitVec.eq_of_getLsbD_eq
  intro i hi
  simp [low32, show i < 32 by omega]

theorem unmappedAddress_low (a : Dword) : (unmappedAddress a).extractLsb' 0 10 = (a.extractLsb' 0 10 : BitVec 10) := by
  rw [extractLsb'_eq_iff, toNat_unmappedAddress, toNat_extractLsb']
  omega

theorem low32_low (a : Dword) : (low32 a).extractLsb' 0 10 = (a.extractLsb' 0 10 : BitVec 10) := by
  rw [extractLsb'_eq_iff, toNat_low32, toNat_extractLsb']
  omega

/-- The class, if it gives a physical address, gives one with the low ten bits of the virtual one. -/
def AddressClass.KeepsOffset (a : Dword) : AddressClass → Prop
  | .unmapped pa _ => pa.extractLsb' 0 10 = (a.extractLsb' 0 10 : BitVec 10)
  | _ => True

theorem State.classify32_keepsOffset (s : State) (a : Dword) : (s.classify32 a).KeepsOffset a := by
  unfold State.classify32
  repeat' split
  all_goals first | trivial | exact low32_low a | exact unmappedAddress_low a

theorem State.classifyCompat_keepsOffset (s : State) (a : Dword) : (s.classifyCompat a).KeepsOffset a := by
  unfold State.classifyCompat
  repeat' split
  all_goals first | trivial | exact unmappedAddress_low a

/-- An address used without the TLB keeps its low ten bits (R109). -/
theorem State.classify_keepsOffset (s : State) (a : Dword) : (s.classify a).KeepsOffset a := by
  unfold State.classify
  split
  · unfold State.classify64
    dsimp only
    repeat' split
    all_goals first | trivial | exact low32_low a | exact s.classifyCompat_keepsOffset a
  · exact s.classify32_keepsOffset a

/-- An answer of the TLB is the address in a page (R116). -/
theorem State.tlbTranslate_ok {u : State} {t : Target} (h : s.tlbTranslate w a = .ok t u) :
    u = s ∧ ∃ mask pfn, t.pa = pageAddress mask pfn a := by
  unfold State.tlbTranslate at h
  dsimp only at h
  repeat' split at h
  all_goals cases h
  exact ⟨rfl, _, _, rfl⟩

/-- Settles O40, by the class of the address. -/
theorem translationKeepsPageOffset : Obligations.TranslationKeepsPageOffset := by
  intro s u w a t h
  unfold State.translate at h
  split at h
  next => cases h
  next pa cached e =>
    cases h
    have keeps := s.classify_keepsOffset a
    rw [e] at keeps
    exact ⟨rfl, keeps⟩
  next =>
    obtain ⟨hu, mask, pfn, hp⟩ := State.tlbTranslate_ok h
    exact ⟨hu, hp ▸ pageAddress_low mask pfn a⟩

end Sys2Proof.Machine
end

section
/-! PROOFS. Loads and stores as functions of their access: one equation for each instruction, and the exceptions of the checks
before the access. The power modes. -/
namespace Sys2Proof.Machine

variable {s u : State}

/-! ### The position of an address in its word, doubleword and line -/

theorem byteInDoubleword_eq (va : Dword) : byteInDoubleword va = va.toNat % 8 := by
  rw [byteInDoubleword, toNat_extractLsb']; omega

theorem byteInWord_eq (va : Dword) : byteInWord va = va.toNat % 4 := by
  rw [byteInWord, toNat_extractLsb']; omega

theorem wordInDoubleword_eq (va : Dword) : wordInDoubleword va = va.toNat % 8 / 4 * 4 := by
  unfold wordInDoubleword
  split
  next h => rw [getLsbD_iff_div_mod] at h; omega
  next h => rw [getLsbD_iff_div_mod] at h; omega

theorem lineOffset_eq (va : Dword) (lo : Nat) : lineOffset va lo = va.toNat % 16 / 8 * 8 + lo := by
  unfold lineOffset
  split
  next h => rw [getLsbD_iff_div_mod] at h; omega
  next h => rw [getLsbD_iff_div_mod] at h; omega

/-! ### Loads -/

section
variable (s) (rt base : Reg) (offset : Half)

theorem exec_lb : exec (.lb rt base offset) s =
    let va := s.effectiveAddress base offset
    State.loadInto rt (signBytes 1) (s.load 1 va (va.toNat % 8) 1) := by
  dsimp only; rw [← byteInDoubleword_eq]; rfl

theorem exec_lbu : exec (.lbu rt base offset) s =
    let va := s.effectiveAddress base offset
    State.loadInto rt (zeroBytes 1) (s.load 1 va (va.toNat % 8) 1) := by
  dsimp only; rw [← byteInDoubleword_eq]; rfl

theorem exec_lh : exec (.lh rt base offset) s =
    let va := s.effectiveAddress base offset
    State.loadInto rt (signBytes 2) (s.load 2 va (va.toNat % 8) 2) := by
  dsimp only; rw [← byteInDoubleword_eq]; rfl

theorem exec_lhu : exec (.lhu rt base offset) s =
    let va := s.effectiveAddress base offset
    State.loadInto rt (zeroBytes 2) (s.load 2 va (va.toNat % 8) 2) := by
  dsimp only; rw [← byteInDoubleword_eq]; rfl

theorem exec_lw : exec (.lw rt base offset) s =
    let va := s.effectiveAddress base offset
    State.loadInto rt (signBytes 4) (s.load 4 va (va.toNat % 8) 4) := by
  dsimp only; rw [← byteInDoubleword_eq]; rfl

theorem exec_lwl : exec (.lwl rt base offset) s =
    let va := s.effectiveAddress base offset
    State.loadInto rt (fun m => sext32 (mergeWordLeft (va.toNat % 4) (low32 (s.getReg rt)) (low32 m)))
      (s.load 1 va (va.toNat % 8 / 4 * 4) (va.toNat % 4 + 1)) := by
  dsimp only; rw [← wordInDoubleword_eq, ← byteInWord_eq]; rfl

theorem exec_lwr : exec (.lwr rt base offset) s =
    let va := s.effectiveAddress base offset
    State.loadInto rt (fun m => sext32 (mergeWordRight (va.toNat % 4) (low32 (s.getReg rt)) (low32 m)))
      (s.load 1 va (va.toNat % 8) (4 - va.toNat % 4)) := by
  dsimp only; rw [← byteInDoubleword_eq, ← byteInWord_eq]; rfl

variable {s} (h64 : s.ops64 = true)
include h64

theorem exec_lwu : exec (.lwu rt base offset) s =
    let va := s.effectiveAddress base offset
    State.loadInto rt (zeroBytes 4) (s.load 4 va (va.toNat % 8) 4) := by
  dsimp only; rw [← byteInDoubleword_eq]; apply State.need64_of h64

theorem exec_ld : exec (.ld rt base offset) s =
    let va := s.effectiveAddress base offset
    State.loadInto rt (zeroBytes 8) (s.load 8 va (va.toNat % 8) 8) := by
  dsimp only; rw [← byteInDoubleword_eq]; apply State.need64_of h64

theorem exec_ldl : exec (.ldl rt base offset) s =
    let va := s.effectiveAddress base offset
    State.loadInto rt (fun m => mergeDwordLeft (va.toNat % 8) (s.getReg rt) m) (s.load 1 va 0 (va.toNat % 8 + 1)) := by
  dsimp only; rw [← byteInDoubleword_eq]; apply State.need64_of h64

theorem exec_ldr : exec (.ldr rt base offset) s =
    let va := s.effectiveAddress base offset
    State.loadInto rt (fun m => mergeDwordRight (va.toNat % 8) (s.getReg rt) m)
      (s.load 1 va (va.toNat % 8) (8 - va.toNat % 8)) := by
  dsimp only; rw [← byteInDoubleword_eq]; apply State.need64_of h64

end

/-! ### Stores -/

section
variable (s) (rt base : Reg) (offset : Half)

theorem exec_sb : exec (.sb rt base offset) s =
    let va := s.effectiveAddress base offset
    (s.store 1 va (va.toNat % 8) 1 (s.getReg rt)).finish := by
  dsimp only; rw [← byteInDoubleword_eq]; rfl

theorem exec_sh : exec (.sh rt base offset) s =
    let va := s.effectiveAddress base offset
    (s.store 2 va (va.toNat % 8) 2 (s.getReg rt)).finish := by
  dsimp only; rw [← byteInDoubleword_eq]; rfl

theorem exec_sw : exec (.sw rt base offset) s =
    let va := s.effectiveAddress base offset
    (s.store 4 va (va.toNat % 8) 4 (s.getReg rt)).finish := by
  dsimp only; rw [← byteInDoubleword_eq]; rfl

theorem exec_swl : exec (.swl rt base offset) s =
    let va := s.effectiveAddress base offset
    (s.store 1 va (va.toNat % 8 / 4 * 4) (va.toNat % 4 + 1) (zext32 (s.word rt >>> (24 - 8 * (va.toNat % 4))))).finish := by
  dsimp only; rw [← wordInDoubleword_eq, ← byteInWord_eq]; rfl

theorem exec_swr : exec (.swr rt base offset) s =
    let va := s.effectiveAddress base offset
    (s.store 1 va (va.toNat % 8) (4 - va.toNat % 4) (s.getReg rt)).finish := by
  dsimp only; rw [← byteInDoubleword_eq, ← byteInWord_eq]; rfl

variable {s} (h64 : s.ops64 = true)
include h64

theorem exec_sd : exec (.sd rt base offset) s =
    let va := s.effectiveAddress base offset
    (s.store 8 va (va.toNat % 8) 8 (s.getReg rt)).finish := by
  dsimp only; rw [← byteInDoubleword_eq]; apply State.need64_of h64

theorem exec_sdl : exec (.sdl rt base offset) s =
    let va := s.effectiveAddress base offset
    (s.store 1 va 0 (va.toNat % 8 + 1) (s.getReg rt >>> (56 - 8 * (va.toNat % 8)))).finish := by
  dsimp only; rw [← byteInDoubleword_eq]; apply State.need64_of h64

theorem exec_sdr : exec (.sdr rt base offset) s =
    let va := s.effectiveAddress base offset
    (s.store 1 va (va.toNat % 8) (8 - va.toNat % 8) (s.getReg rt)).finish := by
  dsimp only; rw [← byteInDoubleword_eq]; apply State.need64_of h64

end

/-! ### The forms by alignment -/

section
variable {rt base : Reg} {offset : Half} {n : Nat}

/-- Every load of the alignment `n` loads from an address that must be a multiple of `n`. -/
theorem exec_loadForm : ∀ i ∈ loadForms s.ops64 rt base offset n,
    ∃ f lo k, exec i s = State.loadInto rt f (s.load n (s.effectiveAddress base offset) lo k) := by
  intro i hi
  unfold loadForms at hi
  split at hi
  · rcases List.mem_append.mp hi with hi | hi
    · fin_cases hi
      exacts [⟨_, _, _, exec_lb ..⟩, ⟨_, _, _, exec_lbu ..⟩, ⟨_, _, _, exec_lwl ..⟩, ⟨_, _, _, exec_lwr ..⟩]
    · split at hi
      next h64 =>
        fin_cases hi
        exacts [⟨_, _, _, exec_ldl _ _ _ h64⟩, ⟨_, _, _, exec_ldr _ _ _ h64⟩]
      next => cases hi
  · fin_cases hi
    exacts [⟨_, _, _, exec_lh ..⟩, ⟨_, _, _, exec_lhu ..⟩]
  · rcases List.mem_cons.mp hi with rfl | hi
    · exact ⟨_, _, _, exec_lw ..⟩
    · split at hi
      next h64 =>
        fin_cases hi
        exact ⟨_, _, _, exec_lwu _ _ _ h64⟩
      next => cases hi
  · split at hi
    next h64 =>
      fin_cases hi
      exact ⟨_, _, _, exec_ld _ _ _ h64⟩
    next => cases hi
  · cases hi

/-- Every store of the alignment `n` stores to an address that must be a multiple of `n`. -/
theorem exec_storeForm : ∀ i ∈ storeForms s.ops64 rt base offset n,
    ∃ lo k v, exec i s = (s.store n (s.effectiveAddress base offset) lo k v).finish := by
  intro i hi
  unfold storeForms at hi
  split at hi
  · rcases List.mem_append.mp hi with hi | hi
    · fin_cases hi
      exacts [⟨_, _, _, exec_sb ..⟩, ⟨_, _, _, exec_swl ..⟩, ⟨_, _, _, exec_swr ..⟩]
    · split at hi
      next h64 =>
        fin_cases hi
        exacts [⟨_, _, _, exec_sdl _ _ _ h64⟩, ⟨_, _, _, exec_sdr _ _ _ h64⟩]
      next => cases hi
  · fin_cases hi
    exact ⟨_, _, _, exec_sh ..⟩
  · fin_cases hi
    exact ⟨_, _, _, exec_sw ..⟩
  · split at hi
    next h64 =>
      fin_cases hi
      exact ⟨_, _, _, exec_sd _ _ _ h64⟩
    next => cases hi
  · cases hi

end

/-! ### Results of loads and stores -/

section
variable {e : Exc} {rt : Reg} {f : Dword → Dword}

theorem State.loadInto_raise : State.loadInto rt f (.raise e u) = .next (u.takeException e) := rfl

/-- A load that has its data completes: it writes `rt` and nothing else. -/
theorem State.loadInto_ok (rt : Reg) (f : Dword → Dword) (d : Dword) (u : State) :
    ∃ t, State.loadInto rt f (.ok d u) = .next t ∧ WritesOnly u t rt (f d) := u.writeResult_spec rt (f d)

variable {n : Nat} {va : Dword}

theorem State.load_raise (h : s.dataTarget false n va = .raise e u) (lo k : Nat) : s.load n va lo k = .raise e u := by
  rw [State.load, h, Res.bind_raise]

theorem State.store_raise (h : s.dataTarget true n va = .raise e u) (lo k : Nat) (v : Dword) :
    s.store n va lo k v = .raise e u := by
  rw [State.store, h, Res.bind_raise]

end

/-- A load takes the exception of its checks, whatever its form. -/
theorem exec_loadForm_raise {rt base : Reg} {offset : Half} {n : Nat} {e : Exc}
    (h : s.dataTarget false n (s.effectiveAddress base offset) = .raise e u) :
    ∀ i ∈ loadForms s.ops64 rt base offset n, exec i s = .next (u.takeException e) := by
  intro i hi
  obtain ⟨f, lo, k, hx⟩ := exec_loadForm i hi
  rw [hx, State.load_raise h, State.loadInto_raise]

/-- A store takes the exception of its checks, whatever its form. -/
theorem exec_storeForm_raise {rt base : Reg} {offset : Half} {n : Nat} {e : Exc}
    (h : s.dataTarget true n (s.effectiveAddress base offset) = .raise e u) :
    ∀ i ∈ storeForms s.ops64 rt base offset n, exec i s = .next (u.takeException e) := by
  intro i hi
  obtain ⟨lo, k, v, hx⟩ := exec_storeForm i hi
  rw [hx, State.store_raise h, Res.finish_raise]

/-! ### Alignment -/

theorem State.dataTarget_misaligned {n : Nat} {va : Dword} (h : va.toNat % n ≠ 0) (w : Bool) :
    s.dataTarget w n va = .raise (.addressError w va) s := if_pos h

theorem State.dataTarget_aligned {n : Nat} {va : Dword} (h : va.toNat % n = 0) (w : Bool) :
    s.dataTarget w n va = (s.translate w va).bind fun t s => s.checkWatch w t := if_neg (not_not.mpr h)

theorem execCache_eq (hu : s.cop0Usable = true) (op : BitVec 5) (base : Reg) (offset : Half) :
    exec (.cache op base offset) s = (s.cacheEffect op (s.effectiveAddress base offset)).finish := by
  apply State.needCop0_of hu

/-- Settles O36: the forms of each alignment take the Address Error of their checks, and CACHE that of its own. -/
theorem misalignedReferencesTrap : Obligations.MisalignedReferencesTrap := by
  intro rt base offset op s va e
  have load {n : Nat} (h : va.toNat % n ≠ 0) : ∀ i ∈ loadForms s.ops64 rt base offset n, exec i s = e false :=
    exec_loadForm_raise (State.dataTarget_misaligned h false)
  have store {n : Nat} (h : va.toNat % n ≠ 0) : ∀ i ∈ storeForms s.ops64 rt base offset n, exec i s = e true :=
    exec_storeForm_raise (State.dataTarget_misaligned h true)
  refine ⟨fun h => ⟨load h _ ?_, load h _ ?_, store h _ ?_⟩,
    fun h => ⟨load h _ ?_, store h _ ?_, fun h64 => load h _ ?_⟩,
    fun h h64 => ⟨load h _ ?_, store h _ ?_⟩, fun h hu => ?_, fun h hu x u ht => ?_⟩
  case refine_9 =>
    have effect : s.cacheEffect op va = .raise (.addressError false va) s := if_pos h
    exact (execCache_eq hu op base offset).trans (congrArg Res.finish effect)
  case refine_10 =>
    have effect : s.cacheEffect op va = .raise x u := by
      rw [State.cacheEffect, if_neg (not_not.mpr h), ht, Res.bind_raise]
    exact (execCache_eq hu op base offset).trans (congrArg Res.finish effect)
  all_goals simp [loadForms, storeForms, *]

/-! ### Watch -/

theorem State.watched_iff (w : Bool) (pa : PAddr) : s.watched w pa = true ↔
    s.cp0.watchLo.getLsbD (if w then 0 else 1) = true ∧ pa.toNat / 8 = s.cp0.watchLo.toNat / 8 := by
  have p : pa.toNat < 2 ^ 32 := pa.isLt
  have q : s.cp0.watchLo.toNat < 2 ^ 32 := s.cp0.watchLo.isLt
  have same : pa.extractLsb' 3 29 = (s.cp0.watchLo.extractLsb' 3 29 : BitVec 29) ↔ pa.toNat / 8 = s.cp0.watchLo.toNat / 8 := by
    rw [extractLsb'_eq_iff, toNat_extractLsb']
    omega
  rw [State.watched, Bool.and_eq_true, beq_iff_eq, same]

/-- A deferred Watch exception is taken by the first step that finds EXL = 0 (R1152, D34). -/
theorem State.boundary_watch (hr : s.syscon.resetRequest = false) (hp : s.power = .fullspeed) (hn : s.nmiPending = false)
    (hw : s.watchPending = true) (hx : s.exl = false) :
    s.boundary = .next (({ s with watchPending := false } : State).takeException .watch) := by
  simp [State.boundary, hr, hp, hn, hw, hx, State.trap]

/-- Settles O37: what the Watch check answers, that the exceptions of the checks are taken, and the deferred exception. -/
theorem watchException : Obligations.WatchException := by
  refine ⟨?_, fun rt base offset s u n e => ⟨exec_loadForm_raise, exec_storeForm_raise⟩, ?_⟩
  · intro s w n va t ha ht watched
    have check : s.dataTarget w n va = s.checkWatch w t := by rw [State.dataTarget_aligned ha, ht, Res.bind_ok]
    have match_iff : s.watched w t.pa = true ↔ watched := State.watched_iff w t.pa
    rw [check, State.checkWatch]
    refine ⟨fun h => if_neg fun c => h (match_iff.mp c), fun h hx => ?_, fun h hx => ?_⟩
    · rw [if_pos (match_iff.mpr h), hx]; rfl
    · rw [if_pos (match_iff.mpr h), hx]; rfl
  · intro s hr hp hn hw hx
    rw [step, State.boundary_watch hr hp hn hw hx]
    rfl

/-! ### Power modes -/

/-- Settles O53: waiting for the SysAD bus lands posted writes, of which the command buffer's four stay. -/
theorem powerModeInstructions : Obligations.PowerModeInstructions := by
  intro s hu u enters
  have lands : s.Evolves u := s.lands_awaitSysAd.evolves
  have same : SameMemory s u := fun c => congrArg (Memory.byte · c) s.lands_awaitSysAd.mem
  have retired : Retired s u.retire := State.retire_retired lands.pc lands.slot lands.cp0
  have posted : u.posted = s.posted.drop (s.posted.length - 4) := s.awaitSysAd_posted
  have stops {i : Instr} {m : PowerMode} (h : exec i s = s.stopPipeline m) : enters i m := by
    refine ⟨{ u.retire with power := m }, h, rfl, u.retire_writesNothing, fun q => State.getReg_congr lands.gpr q, lands.hi,
      lands.lo, same, ⟨retired.pc, retired.slot, retired.cp0⟩, posted, ?_⟩
    show u.posted.length ≤ 4
    rw [posted, List.length_drop]
    omega
  refine ⟨stops ?_, stops ?_, stops ?_⟩
  all_goals apply State.needCop0_of hu

end Sys2Proof.Machine
end

section
/-! PROOFS. The bytes of merged registers and of cache lines, and loads and stores through the data cache. -/
namespace Sys2Proof.Machine

/-! ### Bytes of a merge -/

section
variable {w : Nat}

/-- Bytes shifted to the left, over the low bytes of `old`. -/
theorem extractLsb'_merge_shiftLeft (old m : BitVec w) (d : Nat) {i : Nat} (h : 8 * i + 8 ≤ w) :
    (merge (BitVec.allOnes w <<< (8 * d)) old (m <<< (8 * d))).extractLsb' (8 * i) 8 =
      if d ≤ i then m.extractLsb' (8 * (i - d)) 8 else old.extractLsb' (8 * i) 8 := by
  apply BitVec.eq_of_getLsbD_eq
  intro j hj
  rw [BitVec.getLsbD_extractLsb', getLsbD_merge]
  by_cases hd : d ≤ i
  · rw [if_pos hd, BitVec.getLsbD_extractLsb', if_pos, BitVec.getLsbD_shiftLeft]
    · simp [hj, show 8 * i + j < w by omega, show ¬ 8 * i + j < 8 * d by omega,
        show 8 * i + j - 8 * d = 8 * (i - d) + j by omega]
    · simp [show 8 * i + j < w by omega, show ¬ 8 * i + j < 8 * d by omega]
  · rw [if_neg hd, BitVec.getLsbD_extractLsb', if_neg]
    simp [BitVec.getLsbD_shiftLeft, show 8 * i + j < 8 * d by omega]

/-- The bytes of `m` on the right, under the high bytes of `old`. -/
theorem extractLsb'_merge_shiftRight (old m : BitVec w) (d i : Nat) {k : Nat} (hw : w = 8 * k) :
    (merge (BitVec.allOnes w >>> (8 * d)) old m).extractLsb' (8 * i) 8 =
      if i < k - d then m.extractLsb' (8 * i) 8 else old.extractLsb' (8 * i) 8 := by
  apply BitVec.eq_of_getLsbD_eq
  intro j hj
  rw [BitVec.getLsbD_extractLsb', getLsbD_merge, BitVec.getLsbD_ushiftRight, BitVec.getLsbD_allOnes]
  by_cases hd : i < k - d
  · rw [if_pos hd, BitVec.getLsbD_extractLsb', if_pos (by simp; omega)]
  · rw [if_neg hd, BitVec.getLsbD_extractLsb', if_neg (by simp; omega)]

/-- A number of ones shifted right as a number or as a word of ones is the same mask. -/
theorem natCast_shiftRight_ones {n : Nat} (hn : n = 2 ^ w - 1) (k : Nat) :
    ((n >>> k : Nat) : BitVec w) = BitVec.allOnes w >>> k := by
  apply BitVec.eq_of_toNat_eq
  have le : n >>> k ≤ n := Nat.shiftRight_le n k
  have pos : 0 < 2 ^ w := Nat.two_pow_pos w
  rw [BitVec.toNat_ushiftRight, BitVec.toNat_allOnes, ← hn]
  exact Nat.mod_eq_of_lt (by omega)

end

theorem byteOf_low32 {i : Nat} (h : i < 4) (d : Dword) : byteOf i (low32 d) = dwordByte d i := by
  apply BitVec.eq_of_getLsbD_eq
  intro j hj
  simp [byteOf, dwordByte, low32, hj, show 8 * i + j < 32 by omega]

/-- The bytes of LWL's word (R227). -/
theorem byteOf_mergeWordLeft {b i : Nat} (hb : b < 4) (hi : i < 4) (old m : Dword) :
    byteOf i (mergeWordLeft b (low32 old) (low32 m)) = if 3 - b ≤ i then dwordByte m (i - (3 - b)) else dwordByte old i := by
  rw [mergeWordLeft, show 24 - 8 * b = 8 * (3 - b) by omega, ← byteOf_low32 hi, ← byteOf_low32 (by omega)]
  exact extractLsb'_merge_shiftLeft (low32 old) (low32 m) (3 - b) (by omega)

/-- The bytes of LWR's word (R228). -/
theorem byteOf_mergeWordRight (b : Nat) {i : Nat} (hi : i < 4) (old m : Dword) :
    byteOf i (mergeWordRight b (low32 old) (low32 m)) = if i < 4 - b then dwordByte m i else dwordByte old i := by
  rw [mergeWordRight, natCast_shiftRight_ones (by norm_num), ← byteOf_low32 hi, ← byteOf_low32 hi]
  exact extractLsb'_merge_shiftRight (low32 old) (low32 m) b i (k := 4) rfl

/-- The bytes of LDL's doubleword (R231). -/
theorem dwordByte_mergeDwordLeft {b i : Nat} (hb : b < 8) (hi : i < 8) (old m : Dword) :
    dwordByte (mergeDwordLeft b old m) i = if 7 - b ≤ i then dwordByte m (i - (7 - b)) else dwordByte old i := by
  rw [mergeDwordLeft, show 56 - 8 * b = 8 * (7 - b) by omega]
  exact extractLsb'_merge_shiftLeft old m (7 - b) (by omega)

/-- The bytes of LDR's doubleword (R232). -/
theorem dwordByte_mergeDwordRight (b i : Nat) (old m : Dword) :
    dwordByte (mergeDwordRight b old m) i = if i < 8 - b then dwordByte m i else dwordByte old i := by
  rw [mergeDwordRight, natCast_shiftRight_ones (by norm_num)]
  exact extractLsb'_merge_shiftRight old m b i (k := 8) rfl

theorem dwordByte_zext32 {i : Nat} (h : i < 4) (w : Word) : dwordByte (zext32 w) i = byteOf i w := by
  apply BitVec.eq_of_getLsbD_eq
  intro j hj
  simp [byteOf, dwordByte, zext32, hj]
  omega

/-- The bytes that SWL stores (R236). -/
theorem dwordByte_wordLeft {b j : Nat} (hb : b < 4) (hj : j < b + 1) (v : Dword) :
    dwordByte (zext32 (low32 v >>> (24 - 8 * b))) j = dwordByte v (3 - b + j) := by
  rw [dwordByte_zext32 (by omega), show 24 - 8 * b = 8 * (3 - b) by omega, ← byteOf_low32 (by omega), byteOf,
    extractLsb'_ushiftRight, ← Nat.mul_add]
  rfl

/-- The bytes that SDL stores (R239). -/
theorem dwordByte_dwordLeft {b : Nat} (hb : b < 8) (v : Dword) (j : Nat) :
    dwordByte (v >>> (56 - 8 * b)) j = dwordByte v (7 - b + j) := by
  rw [show 56 - 8 * b = 8 * (7 - b) by omega, dwordByte, extractLsb'_ushiftRight, ← Nat.mul_add]
  rfl

/-! ### Bytes of a line -/

theorem dwordByte_lineBytes (data : BitVec 128) (o : Nat) {n i : Nat} (hi : i < n) (hn : n ≤ 8) :
    dwordByte (lineBytes data o n) i = data.extractLsb' (8 * (o + i)) 8 := by
  apply BitVec.eq_of_getLsbD_eq
  intro j hj
  rw [dwordByte, lineBytes, BitVec.getLsbD_extractLsb', BitVec.getLsbD_extractLsb', BitVec.getLsbD_ofNat,
    show 256 ^ n = 2 ^ (8 * n) by rw [pow_mul]; rfl, show 256 ^ o = 2 ^ (8 * o) by rw [pow_mul]; rfl,
    Nat.testBit_mod_two_pow, Nat.testBit_div_two_pow]
  rw [BitVec.testBit_toNat, show 8 * i + j + 8 * o = 8 * (o + i) + j by omega]
  simp [show 8 * i + j < 64 by omega, show 8 * i + j < 8 * n by omega]

theorem extractLsb'_lineStore (data : BitVec 128) (o n : Nat) (v : Dword) {i : Nat} (hi : i < 16) (hn : n ≤ 8) :
    (lineStore data o n v).extractLsb' (8 * i) 8 =
      if o ≤ i ∧ i < o + n then dwordByte v (i - o) else data.extractLsb' (8 * i) 8 := by
  apply BitVec.eq_of_getLsbD_eq
  intro j hj
  have mask : (BitVec.ofNat 128 ((256 ^ n - 1) * 256 ^ o)).getLsbD (8 * i + j) = decide (o ≤ i ∧ i < o + n) := by
    rw [show 256 ^ n = 2 ^ (8 * n) by rw [pow_mul]; rfl, show 256 ^ o = 2 ^ (8 * o) by rw [pow_mul]; rfl, BitVec.getLsbD_ofNat,
      Nat.testBit_mul_two_pow, Nat.testBit_two_pow_sub_one]
    rw [← Bool.decide_and, ← Bool.decide_and]
    exact decide_eq_decide.mpr (by omega)
  rw [BitVec.getLsbD_extractLsb', lineStore, getLsbD_merge, mask]
  by_cases h : o ≤ i ∧ i < o + n
  · rw [if_pos h, if_pos (decide_eq_true h), show 256 ^ o = 2 ^ (8 * o) by rw [pow_mul]; rfl, BitVec.getLsbD_ofNat,
      Nat.testBit_mul_two_pow, dwordByte, BitVec.getLsbD_extractLsb', BitVec.testBit_toNat,
      show 8 * i + j - 8 * o = 8 * (i - o) + j by omega]
    simp [show 8 * i + j < 128 by omega, show 8 * o ≤ 8 * i + j by omega]
  · rw [if_neg h, if_neg (by simpa using h), BitVec.getLsbD_extractLsb']

theorem extractLsb'_zero_ofNat {k : Nat} (h : k ≤ 64) (x : Nat) : (BitVec.ofNat 64 x).extractLsb' 0 k = BitVec.ofNat k x := by
  apply BitVec.eq_of_getLsbD_eq
  intro j hj
  rw [BitVec.getLsbD_extractLsb', BitVec.getLsbD_ofNat, BitVec.getLsbD_ofNat]
  simp [hj, show j < 64 by omega]

theorem signBytes_lineBytes {n : Nat} (hn : n ≤ 8) (data : BitVec 128) (o : Nat) :
    signBytes n (lineBytes data o n) = (BitVec.ofNat (8 * n) (data.toNat / 256 ^ o % 256 ^ n)).signExtend 64 := by
  rw [signBytes, lineBytes, extractLsb'_zero_ofNat (by omega)]

theorem zeroBytes_lineBytes {n : Nat} (hn : n ≤ 8) (data : BitVec 128) (o : Nat) :
    zeroBytes n (lineBytes data o n) = BitVec.ofNat 64 (data.toNat / 256 ^ o % 256 ^ n) := by
  have lt : data.toNat / 256 ^ o % 256 ^ n < 2 ^ (8 * n) := by
    rw [show (2 : Nat) ^ (8 * n) = 256 ^ n by rw [pow_mul]; rfl]
    exact Nat.mod_lt _ (Nat.pow_pos (by decide))
  rw [zeroBytes, lineBytes, extractLsb'_zero_ofNat (by omega)]
  apply BitVec.eq_of_toNat_eq
  rw [BitVec.zeroExtend, BitVec.toNat_setWidth, BitVec.toNat_ofNat, BitVec.toNat_ofNat, Nat.mod_eq_of_lt lt]

/-! ### The data cache -/

section
variable {s u v : State} {va : Dword} {pa : PAddr}

theorem State.fillD_canonical (h : s.canonical = true) (hf : s.fillD va pa = .ok () u) : u.canonical = true :=
  (hf ▸ s.fillD_evolves va pa : Res.Holds s.Evolves (.ok () u)).of_ok.canonical h

/-- A refill that answers leaves its line with the tag of the address, valid and clean. -/
theorem State.refillD_ok {i : Nat} (h : s.canonical = true) (hr : s.refillD i pa = .ok () u) :
    (u.dLine i).hit pa = true ∧ (u.dLine i).w = false := by
  have keeps := s.busReadLine_evolves .dbe (lineBase pa)
  unfold State.refillD at hr
  generalize s.busReadLine .dbe (lineBase pa) = r at hr keeps
  cases keeps with
  | ok k =>
    cases hr
    rw [State.dLine_setDLine_same (k.canonical h)]
    simp [DLine.hit]
  | raise => cases hr
  | fault => cases hr

/-- After the line of a reference has been brought in, it hits (R143). -/
theorem State.fillD_hit (h : s.canonical = true) (hf : s.fillD va pa = .ok () u) : (u.dLine (dIndex va)).hit pa = true := by
  unfold State.fillD at hf
  split at hf
  next hit =>
    cases hf
    exact hit
  next => exact (State.refillD_ok ((s.evolves_writeBackDirty _).canonical h) hf).1

theorem DLine.v_of_hit {l : DLine} (h : l.hit pa = true) : l.v = true := (Bool.and_eq_true _ _ ▸ h).1

variable {w : Bool} {n : Nat}

theorem ThroughDataCache.canonical (h : s.canonical = true) (r : ThroughDataCache s w n va u) : u.canonical = true := by
  obtain ⟨pa, v, ht, hf⟩ := r
  have checks : s.Evolves v := (ht ▸ s.dataTarget_evolves w n va : Res.Holds s.Evolves (.ok _ v)).of_ok
  exact State.fillD_canonical (checks.canonical h) hf

theorem ThroughDataCache.valid (h : s.canonical = true) (r : ThroughDataCache s w n va u) : (u.dLine (dIndex va)).v = true := by
  obtain ⟨pa, v, ht, hf⟩ := r
  have checks : s.Evolves v := (ht ▸ s.dataTarget_evolves w n va : Res.Holds s.Evolves (.ok _ v)).of_ok
  exact DLine.v_of_hit (State.fillD_hit (checks.canonical h) hf)

/-- A load through the data cache takes the bytes of the line. -/
theorem ThroughDataCache.load (r : ThroughDataCache s false n va u) (lo k : Nat) :
    s.load n va lo k = .ok (lineBytes (u.dLine (dIndex va)).data (lineOffset va lo) k) u := by
  obtain ⟨pa, v, ht, hf⟩ := r
  rw [State.load, ht, Res.bind_ok, if_pos rfl, State.cachedRead, hf, Res.bind_ok]

/-- A store through the data cache writes the line. -/
theorem ThroughDataCache.store (r : ThroughDataCache s true n va u) (lo k : Nat) (x : Dword) :
    s.store n va lo k x = .ok () (u.writeLine va (lineOffset va lo) k x) := by
  obtain ⟨pa, v, ht, hf⟩ := r
  rw [State.store, ht, Res.bind_ok, if_pos rfl, State.cachedWrite, hf, Res.bind_ok]

theorem State.writeLine_same (h : s.canonical = true) (o n : Nat) (x : Dword) : (s.writeLine va o n x).dLine (dIndex va) =
    { s.dLine (dIndex va) with data := lineStore (s.dLine (dIndex va)).data o n x, w := true } :=
  State.dLine_setDLine_same h _ _

theorem State.writeLine_ne (o n : Nat) (x : Dword) {j : Nat} (h : j ≠ dIndex va) : (s.writeLine va o n x).dLine j = s.dLine j :=
  State.dLine_setDLine_ne s h _

end

/-- Settles O32: the bytes of the line that each form of a load takes, and those that each form of a store leaves. -/
theorem cachedLoadsAndStores : Obligations.CachedLoadsAndStores := by
  intro rt base offset s u hc va o b4 b8 byte d old reads writes stores
  have b4_lt : b4 < 4 := Nat.mod_lt _ (by decide)
  have b8_lt : b8 < 8 := Nat.mod_lt _ (by decide)
  have whole : lineOffset va b8 = o := by rw [lineOffset_eq]; omega
  have word : lineOffset va (b8 / 4 * 4) = o - b4 := by rw [lineOffset_eq]; omega
  have dword : lineOffset va 0 = o - b8 := by rw [lineOffset_eq]; omega
  have loads {i : Instr} {f : Dword → Dword} {n lo k first : Nat} (r : reads n)
      (hi : exec i s = State.loadInto rt f (s.load n va lo k)) (ho : lineOffset va lo = first) :
      ∃ t, exec i s = .next t ∧ WritesOnly u t rt (f (lineBytes (u.dLine (dIndex va)).data first k)) := by
    rw [hi, r.load, ho]
    exact State.loadInto_ok ..
  have signed {i : Instr} {n : Nat} (hn : n ≤ 8) (r : reads n)
      (hi : exec i s = State.loadInto rt (signBytes n) (s.load n va b8 n)) :
      ∃ t, exec i s = .next t ∧ WritesOnly u t rt ((BitVec.ofNat (8 * n) (d n)).signExtend 64) :=
    signBytes_lineBytes hn _ o ▸ loads r hi whole
  have zeroed {i : Instr} {n : Nat} (hn : n ≤ 8) (r : reads n)
      (hi : exec i s = State.loadInto rt (zeroBytes n) (s.load n va b8 n)) :
      ∃ t, exec i s = .next t ∧ WritesOnly u t rt (BitVec.ofNat 64 (d n)) :=
    zeroBytes_lineBytes hn _ o ▸ loads r hi whole
  have stored {i : Instr} {n lo k first low : Nat} {x : Dword} (r : writes n)
      (hi : exec i s = (s.store n va lo k x).finish) (ho : lineOffset va lo = first) (hk : k ≤ 8)
      (hx : ∀ j, j < k → dwordByte x j = old (low + j)) : ∃ t, exec i s = .next t ∧ stores first k low t := by
    have hu := r.canonical hc
    have line := State.writeLine_same (va := va) hu first k x
    refine ⟨(u.writeLine va first k x).retire, by rw [hi, r.store, ho]; rfl, ?_⟩
    refine ⟨?_, ?_, ?_, fun i hi => ?_, fun j hj => State.writeLine_ne _ _ _ hj, rfl, fun _ => rfl, fun _ => rfl, rfl, rfl, rfl,
      State.retire_retired rfl rfl rfl, rfl⟩
    · exact (congrArg DLine.v line).trans (r.valid hc)
    · exact congrArg DLine.w line
    · exact (congrArg DLine.ptag line).trans rfl
    · refine (congrArg (fun l : DLine => (l.data.extractLsb' (8 * i) 8 : Byte)) line).trans
        ((extractLsb'_lineStore _ first k x hi hk).trans (ite_congr rfl (fun c => ?_) fun _ => rfl))
      exact hx _ (by omega)
  refine ⟨fun r => signed (by decide) r (exec_lb ..), fun r => zeroed (by decide) r (exec_lbu ..),
    fun r => signed (by decide) r (exec_lh ..), fun r => zeroed (by decide) r (exec_lhu ..),
    fun r => signed (by decide) r (exec_lw ..), fun r h64 => zeroed (by decide) r (exec_lwu _ _ _ h64),
    fun r h64 => zeroed (by decide) r (exec_ld _ _ _ h64), fun r => ?_, fun r => ?_, fun r h64 => ?_, fun r h64 => ?_,
    fun r => stored r (exec_sb ..) whole (by omega) fun j _ => ?_, fun r => stored r (exec_sh ..) whole (by omega) fun j _ => ?_,
    fun r => stored r (exec_sw ..) whole (by omega) fun j _ => ?_,
    fun r h64 => stored r (exec_sd _ _ _ h64) whole (by omega) fun j _ => ?_,
    fun r => stored r (exec_swl ..) word (by omega) fun j hj => ?_,
    fun r => stored r (exec_swr ..) whole (by omega) fun j _ => ?_,
    fun r h64 => stored r (exec_sdl _ _ _ h64) dword (by omega) fun j hj => ?_,
    fun r h64 => stored r (exec_sdr _ _ _ h64) whole (by omega) fun j _ => ?_⟩
  · obtain ⟨t, ht, ok⟩ := loads r (exec_lwl ..) word
    exact ⟨t, _, ht, ok, fun i hi => (byteOf_mergeWordLeft b4_lt hi _ _).trans (ite_congr rfl
      (fun c => dwordByte_lineBytes _ _ (by omega : i - (3 - b4) < b4 + 1) (by omega : b4 + 1 ≤ 8)) fun _ => rfl)⟩
  · obtain ⟨t, ht, ok⟩ := loads r (exec_lwr ..) whole
    exact ⟨t, _, ht, ok, fun i hi => (byteOf_mergeWordRight b4 hi _ _).trans (ite_congr rfl
      (fun c => dwordByte_lineBytes _ _ c (by omega : 4 - b4 ≤ 8)) fun _ => rfl)⟩
  · obtain ⟨t, ht, ok⟩ := loads r (exec_ldl _ _ _ h64) dword
    exact ⟨t, _, ht, ok, fun i hi => (dwordByte_mergeDwordLeft b8_lt hi _ _).trans (ite_congr rfl
      (fun c => dwordByte_lineBytes _ _ (by omega : i - (7 - b8) < b8 + 1) b8_lt) fun _ => rfl)⟩
  · obtain ⟨t, ht, ok⟩ := loads r (exec_ldr _ _ _ h64) whole
    exact ⟨t, _, ht, ok, fun i hi => (dwordByte_mergeDwordRight b8 i _ _).trans (ite_congr rfl
      (fun c => dwordByte_lineBytes _ _ c (by omega : 8 - b8 ≤ 8)) fun _ => rfl)⟩
  case refine_9 => exact dwordByte_wordLeft b4_lt (hj : j < b4 + 1) _
  case refine_11 => exact dwordByte_dwordLeft b8_lt _ _
  all_goals rw [Nat.zero_add]

end Sys2Proof.Machine
end

section
/-! PROOFS. Refill bursts and write-backs: what bringing a line into a cache does. -/
namespace Sys2Proof.Machine

variable {s t : State} {pa : PAddr}

/-! ### The sides of the address map -/

/-- The side of the system controller that a region lies on (R136). -/
def Region.side : Region → BusSide
  | .sdram => .memory
  | .rom => .memory
  | .romOutside => .memory
  | .memReserved => .memory
  | .syscon => .registers
  | .block _ => .ibus
  | .ibusReserved => .ibus
  | .pciWindow => .ibus

theorem State.side_region (s : State) (a : Nat) : (s.region a).side = busSide a := by
  simp only [State.region, apply_ite Region.side]
  simp only [Region.side, ite_self]
  unfold busSide
  split_ifs <;> first | rfl | omega

theorem busSide_of_region {a : Nat} {r : Region} (h : s.region a = r) : busSide a = r.side := h ▸ (s.side_region a).symm

/-! ### Waiting leaves memory and the caches alone -/

@[simp] theorem State.await_mem (s : State) (side : BusSide) : (s.await side).mem = s.mem := (s.lands_await side).mem

theorem State.dLine_congr (h : t.dcache = s.dcache) (i : Nat) : t.dLine i = s.dLine i := by rw [State.dLine, State.dLine, h]

theorem State.iLine_congr (h : t.icache = s.icache) (i : Nat) : t.iLine i = s.iLine i := by rw [State.iLine, State.iLine, h]

@[simp] theorem State.await_dLine (s : State) (side : BusSide) (i : Nat) : (s.await side).dLine i = s.dLine i :=
  State.dLine_congr (s.lands_await side).dcache i

@[simp] theorem State.await_iLine (s : State) (side : BusSide) (i : Nat) : (s.await side).iLine i = s.iLine i :=
  State.iLine_congr (s.lands_await side).icache i

theorem State.await_canonical (h : s.canonical = true) (side : BusSide) : (s.await side).canonical = true :=
  (s.lands_await side).evolves.canonical h

/-! ### The refill burst -/

/-- A burst read of SDRAM (R145). -/
theorem State.busReadLine_sdram (e : Exc) (h : (s.await .memory).region (foldAddress pa) = .sdram) :
    s.busReadLine e pa = .ok (BitVec.ofNat 128 (s.mem.read (foldAddress pa) 16)) (s.await .memory) := by
  have side : busSide (foldAddress pa) = .memory := busSide_of_region h
  rw [State.busReadLine]
  rw [side, h]
  dsimp only
  rw [State.await_mem]

/-- A burst read outside the boot ROM's configured size reports an error (R138, R145). -/
theorem State.busReadLine_romOutside (e : Exc) (h : (s.await .memory).region (foldAddress pa) = .romOutside) :
    s.busReadLine e pa = .raise e ((s.await .memory).nmiCause nsrMAERR) := by
  have side : busSide (foldAddress pa) = .memory := busSide_of_region h
  rw [State.busReadLine]
  rw [side, h]

/-- What a refill of a data cache line from SDRAM leaves. -/
theorem State.refillD_sdram (hc : s.canonical = true) (i : Nat)
    (h : (s.await .memory).region (foldAddress (lineBase pa)) = .sdram) :
    ∃ t, s.refillD i pa = .ok () t ∧ (t.dLine i).hit pa = true ∧ (t.dLine i).w = false ∧
      (t.dLine i).data = BitVec.ofNat 128 (t.mem.read (foldAddress (lineBase pa)) 16) ∧
      (∀ j, j ≠ i → t.dLine j = s.dLine j) ∧ t = { s.await .memory with dcache := t.dcache } := by
  have refilled : s.refillD i pa = .ok () ((s.await .memory).setDLine i
      { data := BitVec.ofNat 128 (s.mem.read (foldAddress (lineBase pa)) 16), ptag := tagOf pa, v := true,
        d := ((s.await .memory).dLine i).d, w := false }) := by
    rw [State.refillD, State.busReadLine_sdram .dbe h]
  obtain ⟨hit, clean⟩ := State.refillD_ok hc refilled
  refine ⟨_, refilled, hit, clean, ?_, fun j hj => ?_, rfl⟩
  · rw [State.dLine_setDLine_same (State.await_canonical hc _)]
    exact congrArg (fun m : Memory => BitVec.ofNat 128 (m.read (foldAddress (lineBase pa)) 16)) (s.await_mem .memory).symm
  · rw [State.dLine_setDLine_ne _ hj, State.await_dLine]

/-- What a refill of a data cache line that reports an error leaves (R145). -/
theorem State.refillD_romOutside (hc : s.canonical = true) (i : Nat)
    (h : (s.await .memory).region (foldAddress (lineBase pa)) = .romOutside) :
    ∃ t, s.refillD i pa = .raise .dbe t ∧ (t.dLine i).v = false ∧ (∀ j, j ≠ i → t.dLine j = s.dLine j) ∧
      t = { (s.await .memory).nmiCause nsrMAERR with dcache := t.dcache } := by
  have refilled : s.refillD i pa = .raise .dbe (((s.await .memory).nmiCause nsrMAERR).setDLine i
      { ((s.await .memory).nmiCause nsrMAERR).dLine i with v := false, w := false }) := by
    rw [State.refillD, State.busReadLine_romOutside .dbe h]
  have hc' : ((s.await .memory).nmiCause nsrMAERR).canonical = true :=
    (State.evolves_nmiCause _ _).canonical (State.await_canonical hc _)
  refine ⟨_, refilled, ?_, fun j hj => ?_, rfl⟩
  · rw [State.dLine_setDLine_same hc']
  · rw [State.dLine_setDLine_ne _ hj]
    exact s.await_dLine .memory j

/-! ### The write-back burst -/

theorem not_and_of_false {a b : Bool} (h : a = false ∨ b = false) : ¬ (a = true ∧ b = true) := by
  rcases h with rfl | rfl <;> simp

theorem State.busWriteLine_sdram {v : BitVec 128} (h : s.regionAhead (foldAddress pa) = .sdram) :
    s.busWriteLine pa v = s.postMemory (foldAddress pa) 16 v.toNat := by
  rw [State.busWriteLine]
  rw [h]

/-- A dirty line whose home is SDRAM is posted there (R143, R144). -/
theorem State.writeBackDirty_sdram {i : Nat} (hv : (s.dLine i).v = true) (hw : (s.dLine i).w = true)
    (h : s.regionAhead (foldAddress (writeBackAddress i (s.dLine i).ptag)) = .sdram) :
    s.writeBackDirty i =
      s.postMemory (foldAddress (writeBackAddress i (s.dLine i).ptag)) 16 (s.dLine i).data.toNat := by
  have dirty : ((s.dLine i).v && (s.dLine i).w) = true := by rw [hv, hw]; rfl
  rw [State.writeBackDirty]
  rw [if_pos dirty, State.busWriteLine_sdram h]

theorem State.postMemory_mem (s : State) (a n v : Nat) : (s.postMemory a n v).mem = s.mem.write a n v := rfl

theorem State.postMemory_dLine (s : State) (a n v i : Nat) : (s.postMemory a n v).dLine i = s.dLine i :=
  State.dLine_congr (s.lands_post (.memory (s.mem.cells a n))).dcache i

theorem State.fillD_miss {va : Dword} (h : (s.dLine (dIndex va)).hit pa = false) :
    s.fillD va pa = (s.writeBackDirty (dIndex va)).refillD (dIndex va) pa := by
  rw [State.fillD, if_neg (by rw [h]; decide)]

/-! ### Loads and stores whose refill fails -/

section
variable {v : State} {n : Nat} {va : Dword} {e : Exc}

theorem State.load_fill_raise (ht : s.dataTarget false n va = .ok { pa := pa, cached := true } v) (hf : v.fillD va pa = .raise e t)
    (lo k : Nat) : s.load n va lo k = .raise e t := by
  rw [State.load, ht, Res.bind_ok, if_pos rfl, State.cachedRead, hf, Res.bind_raise]

theorem State.store_fill_raise (ht : s.dataTarget true n va = .ok { pa := pa, cached := true } v) (hf : v.fillD va pa = .raise e t)
    (lo k : Nat) (x : Dword) : s.store n va lo k x = .raise e t := by
  rw [State.store, ht, Res.bind_ok, if_pos rfl, State.cachedWrite, hf, Res.bind_raise]

end

/-- Settles O33: a miss is a write-back of the line if it is dirty, and then the refill. -/
theorem dataCacheRefills : Obligations.DataCacheRefills := by
  refine ⟨fun s va pa hc => ⟨fun hit => if_pos hit, fun miss clean sdram => ?_, fun miss hv hw homeSdram sdram => ?_,
    fun miss clean outside => ?_⟩,
    fun rt base offset s v t pa n => ⟨fun ⟨ht, hf⟩ i hi => ?_, fun ⟨ht, hf⟩ i hi => ?_⟩⟩
  · obtain ⟨t, ok, hit, clear, data, others, only⟩ := State.refillD_sdram hc (dIndex va) sdram
    rw [← State.writeBackDirty_clean (s := s) (i := dIndex va) (not_and_of_false clean), ← State.fillD_miss miss] at ok
    refine ⟨t, ⟨ok, hit, clear, data, others, only⟩, fun c => ?_⟩
    rw [only]
    exact congrArg (Memory.byte · c) (s.await_mem .memory)
  · have hb := (s.evolves_postMemory (foldAddress (writeBackAddress (dIndex va) (s.dLine (dIndex va)).ptag)) 16
      (s.dLine (dIndex va)).data.toNat).canonical hc
    obtain ⟨t, ok, hit, clear, data, others, only⟩ := State.refillD_sdram hb (dIndex va) sdram
    rw [← State.writeBackDirty_sdram hv hw homeSdram, ← State.fillD_miss miss] at ok
    have memory : t.mem = s.mem.write (foldAddress (writeBackAddress (dIndex va) (s.dLine (dIndex va)).ptag)) 16
        (s.dLine (dIndex va)).data.toNat := by
      rw [only]
      exact (State.await_mem _ _).trans (s.postMemory_mem _ _ _)
    have same (j : Nat) (hj : j ≠ dIndex va) : t.dLine j = s.dLine j := (others j hj).trans (s.postMemory_dLine _ _ _ j)
    refine ⟨t, ⟨ok, hit, clear, data, same, only⟩, ?_, fun c h => ?_⟩
    · rw [memory, Memory.read_write (s.canonical_iff.mp hc).1]
      exact Nat.mod_eq_of_lt (s.dLine (dIndex va)).data.isLt
    · rw [memory, Memory.byte_write_outside _ _ _ _ h]
  · obtain ⟨t, ok, invalid, others, only⟩ := State.refillD_romOutside hc (dIndex va) outside
    rw [← State.writeBackDirty_clean (s := s) (i := dIndex va) (not_and_of_false clean), ← State.fillD_miss miss] at ok
    refine ⟨t, ok, invalid, others, fun c => ?_, only⟩
    rw [only]
    exact congrArg (Memory.byte · c) (s.await_mem .memory)
  · obtain ⟨f, lo, k, hx⟩ := exec_loadForm i hi
    rw [hx]
    exact congrArg (State.loadInto rt f) (State.load_fill_raise ht hf lo k)
  · obtain ⟨lo, k, x, hx⟩ := exec_storeForm i hi
    rw [hx]
    exact congrArg Res.finish (State.store_fill_raise ht hf lo k x)

end Sys2Proof.Machine
end

section
/-! PROOFS. Instruction fetch: its exceptions, the refill of the instruction cache, and uncached fetch. -/
namespace Sys2Proof.Machine

variable {s u : State} {pa : PAddr} {e : Exc}

/-! ### The fetch in a step -/

/-- With no event at the boundary the step executes an instruction (R1117). -/
theorem AtInstruction.step_eq (h : AtInstruction s) : step s = settleOut s.runInstruction := by
  have watch : (s.watchPending && !s.exl) = false := by
    rcases h.watch with w | x
    · rw [w, Bool.false_and]
    · rw [x, Bool.not_true, Bool.and_false]
  simp [step, State.boundary, h.reset, h.power, h.nmi, watch]

/-- An exception of the fetch address is taken before anything else (R118, R1117). -/
theorem AtInstruction.step_fetchTarget (h : AtInstruction s) (ht : s.fetchTarget = .raise e u) :
    step s = .next (u.takeException e).settle := by
  have run : s.runInstruction = u.trap e := by simp [State.runInstruction, h.mode, h.config, ht]
  rw [h.step_eq, run]
  rfl

/-- A bus error of the fetch is taken where no interrupt is (R118, R1117). -/
theorem AtInstruction.step_readInstruction (h : AtInstruction s) (hi : s.interruptEnabled = false) {t : Target}
    (ht : s.fetchTarget = .ok t s) (hr : s.readInstruction s.pc t = .raise e u) : step s = .next (u.takeException e).settle := by
  have word : s.fetchWord t = .raise e u := by rw [State.fetchWord, hr, Res.bind_raise]
  have run : s.runInstruction = u.trap e := by
    simp [State.runInstruction, h.mode, h.config, ht, State.fetchAndRun, hi, word]
  rw [h.step_eq, run]
  rfl

theorem State.fetchTarget_misaligned (h : s.pc.toNat % 4 ≠ 0) : s.fetchTarget = .raise (.addressError false s.pc) s := if_pos h

theorem State.fetchTarget_aligned (h : s.pc.toNat % 4 = 0) : s.fetchTarget = s.translate false s.pc := if_neg (not_not.mpr h)

/-! ### Reading without the cache -/

/-- A reference that meets a region of one side once that side's writes have landed waits for that side. -/
theorem State.await_busSide {side : BusSide} {a : Nat} {r : Region} (h : (s.await side).region a = r) (hr : r.side = side) :
    s.await (busSide a) = s.await side := by rw [busSide_of_region h, hr]

section
variable {n : Nat} (hu : s.await (busSide (foldAddress pa)) = u)
include hu

theorem State.busRead_sdram (h : u.region (foldAddress pa) = .sdram) :
    s.busRead e pa n = .ok (BitVec.ofNat 64 (u.mem.read (foldAddress pa) n)) u := by
  rw [State.busRead, hu, h]

theorem State.busRead_rom (h : u.region (foldAddress pa) = .rom) (hn : n = 4 ∨ n = 8) :
    s.busRead e pa n = .ok (BitVec.ofNat 64 (u.mem.read (foldAddress pa) n)) u := by
  rw [State.busRead, hu, h]
  exact if_pos hn

theorem State.busRead_romOutside (h : u.region (foldAddress pa) = .romOutside) :
    s.busRead e pa n = .raise e (u.nmiCause nsrMAERR) := by
  rw [State.busRead, hu, h]

end

/-! ### Words of a line -/

/-- The word at an offset of a line. -/
theorem setWidth_lineBytes (data : BitVec 128) (o : Nat) : (lineBytes data o 4).setWidth 32 = data.extractLsb' (8 * o) 32 := by
  apply BitVec.eq_of_toNat_eq
  rw [BitVec.toNat_setWidth, lineBytes, BitVec.toNat_ofNat, toNat_extractLsb', pow_mul]
  norm_num

theorem setWidth_ofNat_64 (x : Nat) : (BitVec.ofNat 64 x).setWidth 32 = BitVec.ofNat 32 x := by
  apply BitVec.eq_of_toNat_eq
  rw [BitVec.toNat_setWidth, BitVec.toNat_ofNat, BitVec.toNat_ofNat]
  omega

/-! ### The instruction cache -/

/-- A cached fetch takes the word of the line, which a miss brings in first (R142). -/
theorem State.readInstruction_cached (s : State) (va : Dword) (pa : PAddr) :
    s.readInstruction va { pa := pa, cached := true } =
      if (s.iLine (iIndex va)).hit pa then .ok (lineBytes (s.iLine (iIndex va)).data (va.toNat % 16) 4) s
      else (s.refillI .ibe (iIndex va) pa).bind fun _ t =>
        .ok (lineBytes (t.iLine (iIndex va)).data (va.toNat % 16) 4) t := by
  have offset : (va.extractLsb' 0 4).toNat = va.toNat % 16 := by rw [toNat_extractLsb']; omega
  rw [← offset]
  rfl

/-- A refill of an instruction cache line from SDRAM (R145). -/
theorem State.refillI_sdram (i : Nat) (h : (s.await .memory).region (foldAddress (lineBase pa)) = .sdram) :
    s.refillI e i pa = .ok () ((s.await .memory).setILine i
      { data := BitVec.ofNat 128 (s.mem.read (foldAddress (lineBase pa)) 16), ptag := tagOf pa, v := true }) := by
  rw [State.refillI, State.busReadLine_sdram e h]

/-- A refill of an instruction cache line that reports an error leaves it Invalid (R145). -/
theorem State.refillI_romOutside (i : Nat) (h : (s.await .memory).region (foldAddress (lineBase pa)) = .romOutside) :
    s.refillI e i pa = .raise e (((s.await .memory).nmiCause nsrMAERR).setILine i { s.iLine i with v := false }) := by
  rw [State.refillI, State.busReadLine_romOutside e h]
  exact congrArg (fun l : ILine => Res.raise e (((s.await .memory).nmiCause nsrMAERR).setILine i { l with v := false }))
    (s.await_iLine .memory i)

/-! ### Behind the slot of a taken branch -/

theorem State.fetchBehindSlot_other (h : ∀ x, s.slot ≠ .delay (some x)) : s.fetchBehindSlot = s := by
  unfold State.fetchBehindSlot
  split
  next x hx => exact absurd hx (h x)
  next => rfl

theorem State.fetchBehindSlot_taken {x : Dword} (h : s.slot = .delay (some x)) :
    s.fetchBehindSlot = s.fetchDiscarded (s.pc + 4) := by
  rw [State.fetchBehindSlot, h]

/-- Settles O2: the exceptions by the parts of a step, the reads by the cache and the region, and the fetch behind the slot. -/
theorem instructionFetch : Obligations.InstructionFetch := by
  refine ⟨fun s h => ⟨fun ha => ?_, fun ha e u ht => ?_, fun hi t e u ht hr => ?_⟩, fun s va pa hc => ?_, fun s u t d h => ?_,
    fun s => ⟨State.fetchBehindSlot_other, fun x hx => ⟨fun e u ht => ?_, fun t ht d e u hr => ?_⟩⟩⟩
  · exact h.step_fetchTarget (State.fetchTarget_misaligned ha)
  · exact h.step_fetchTarget ((State.fetchTarget_aligned ha).trans ht)
  · exact h.step_readInstruction hi ht hr
  · intro i l o u src reads fails
    have fetch := s.readInstruction_cached va pa
    refine ⟨fun hit => ⟨_, fetch.trans (if_pos hit), setWidth_lineBytes _ _⟩, fun miss sdram => ?_, fun miss outside => ?_,
      fun h => ?_, fun outside => ?_, rfl⟩
    · have line := State.iLine_setILine_same (State.await_canonical hc .memory) i
        { data := BitVec.ofNat 128 (s.mem.read src 16), ptag := tagOf pa, v := true }
      rw [State.refillI_sdram _ sdram, if_neg (by rw [miss]; decide)] at fetch
      exact ⟨_, line, fun j hj => (State.iLine_setILine_ne _ hj _).trans (s.await_iLine .memory j), rfl, _, fetch,
        setWidth_lineBytes _ _⟩
    · rw [State.refillI_romOutside _ outside, if_neg (by rw [miss]; decide)] at fetch
      have hc' : (u.nmiCause nsrMAERR).canonical = true := (u.evolves_nmiCause _).canonical (State.await_canonical hc .memory)
      refine ⟨_, fetch, ?_, fun j hj => (State.iLine_setILine_ne _ hj _).trans (s.await_iLine .memory j), rfl⟩
      rw [State.iLine_setILine_same hc']
    · have word : (BitVec.ofNat 64 (u.mem.read (foldAddress pa) 4)).setWidth 32 =
          BitVec.ofNat 32 (s.mem.read (foldAddress pa) 4) := by
        rw [setWidth_ofNat_64, s.await_mem .memory]
      rcases h with h | h
      · exact ⟨_, State.busRead_sdram (State.await_busSide h rfl) h, word⟩
      · exact ⟨_, State.busRead_rom (State.await_busSide h rfl) h (.inl rfl), word⟩
    · exact State.busRead_romOutside (State.await_busSide outside rfl) outside
  · rw [State.fetchWord, h, Res.bind_ok]
    rfl
  · rw [State.fetchBehindSlot_taken hx, State.fetchDiscarded, ht]
  · rw [State.fetchBehindSlot_taken hx, State.fetchDiscarded, ht]
    dsimp only
    rcases hr with hr | hr <;> rw [hr] <;> rfl

end Sys2Proof.Machine
end

section
/-! PROOFS. Device registers: a read and a write agree on which addresses are reserved, and what a reserved or an illegal access
does. -/
namespace Sys2Proof.Machine

/-! ### Which addresses are reserved -/

theorem DevReply.sized_true {σ : Type} (r : DevReply σ) : r.sized true = r := by
  unfold DevReply.sized
  split <;> rfl

theorem DevReply.sized_reserved {σ : Type} {r : DevReply σ} (h : r.status = .reserved) (ok : Bool) :
    (r.sized ok).status = .reserved := by
  rw [DevReply.sized, h]
  exact h

theorem Syscon.read_status (y : Syscon) (clksl endcen : Bool) (off : Nat) (be be' : Lanes) (v : Word) :
    (y.read clksl endcen off be).status = (y.write off be' v).status := by
  unfold Syscon.read Syscon.write
  split <;> rfl

theorem Uart.write_status (d : Uart) (off : Nat) (be : Lanes) (v : Word) : (d.write off be v).status = .ok := by
  unfold Uart.write
  dsimp only
  repeat' split
  all_goals rfl

theorem Eth.readReg_status (d : Eth) (off : Nat) (v : Word) : (d.readReg off).status = (d.writeReg off v).status := by
  unfold Eth.readReg Eth.writeReg
  split <;> try rfl
  split <;> rfl

theorem Eth.writeReg_status (d : Eth) (off : Nat) (v w : Word) : (d.writeReg off v).status = (d.writeReg off w).status :=
  (d.readReg_status off v).symm.trans (d.readReg_status off w)

theorem Usb.readReg_status (d : Usb) (off : Nat) (be : Lanes) (v : Word) :
    (d.readReg off).status = (d.writeReg off be v).status := by
  unfold Usb.readReg Usb.writeReg
  split <;> try rfl
  repeat' split
  all_goals rfl

theorem Atm.readReg_status (d : Atm) (off : Nat) (v : Word) : (d.readReg off).status = (d.writeReg off v).status := by
  unfold Atm.readReg Atm.writeReg
  split <;> try rfl
  dsimp only
  repeat' split
  all_goals rfl

theorem DevReply.sized_word {σ : Type} (r : DevReply σ) : r.sized (Lanes.word == Lanes.word) = r := r.sized_true

/-- The reserved addresses of the ATM block lie in its register area (R603). -/
theorem Atm.reserved_cases {d : Atm} {off : Nat} {v : Word} (h : (d.write off Lanes.word v).status = .reserved) :
    ¬ off < 0xE000 ∧ ¬ off < 0xF000 ∧ (d.readReg (off - 0xF000)).status = .reserved := by
  unfold Atm.write at h
  split at h
  next => cases h
  next h1 =>
    split at h
    next => unfold DevReply.sized at h; dsimp only at h; split at h <;> cases h
    next h2 => exact ⟨h1, h2, (d.readReg_status _ v).trans (by rwa [DevReply.sized_word] at h)⟩

theorem Atm.read_reserved {d : Atm} {off : Nat} {v : Word} (h : (d.write off Lanes.word v).status = .reserved) (be : Lanes) :
    (d.read off be).status = .reserved := by
  obtain ⟨h1, h2, status⟩ := Atm.reserved_cases h
  rw [Atm.read, if_neg h1, if_neg h2]
  exact DevReply.sized_reserved status _

theorem Atm.write_reserved {d : Atm} {off : Nat} {v : Word} (h : (d.write off Lanes.word v).status = .reserved) (be : Lanes)
    (v' : Word) : (d.write off be v').status = .reserved := by
  obtain ⟨h1, h2, status⟩ := Atm.reserved_cases h
  rw [Atm.write, if_neg h1, if_neg h2]
  exact DevReply.sized_reserved ((d.readReg_status _ v').symm.trans status) _

theorem Pci.busRead_status (nic : Bool) (d : Pci) : (d.busRead nic).status = .ok := by
  unfold Pci.busRead
  split <;> rfl

theorem Pci.readPcdr_status (nic : Bool) (d : Pci) (be : Lanes) : (d.readPcdr nic be).status = .ok := by
  unfold Pci.readPcdr
  split
  · rfl
  · split
    · rfl
    · simp only [Pci.busRead_status]

theorem Pci.readReg_status (nic : Bool) (d : Pci) (off : Nat) (be be' : Lanes) (v : Word) :
    (d.readReg nic off be).status = (d.writeReg nic off be' v).status := by
  unfold Pci.readReg Pci.writeReg
  split
  case h_5 => exact d.readPcdr_status nic be
  case h_16 => split <;> rfl
  all_goals rfl

/-! ### What an access does -/

section
variable {σ : Type} {put : State → σ → State} {e : Exc} {s : State}

theorem deviceRead_reserved {r : DevReply σ} (h : r.status = .reserved) :
    deviceRead e put r s = .raise e (s.nmiCause nsrCBERR) := by
  rw [deviceRead, h]

theorem deviceWrite_refused {r : DevReply σ} (h : r.status ≠ .ok) : deviceWrite put r s = s.nmiCause nsrCBERR := by
  unfold deviceWrite
  split
  next hs => exact absurd hs h
  next => rfl
  next => rfl

end

section
variable {s : State} {off : Nat}

theorem State.sysconReserved_iff : s.sysconReserved off = true ↔
    ¬ (0x80 ≤ off ∧ off < 0xA0) ∧ ¬ (0xB0 ≤ off ∧ off < 0xC4) ∧ ¬ (0xD0 ≤ off ∧ off < 0xE4) ∧
      (s.syscon.write off Lanes.word 0).status = .reserved := by
  unfold State.sysconReserved
  split
  next h => simp [h, Uart.write_status]
  next h =>
    split
    next h' => simp only [Bool.false_eq_true, false_iff]; tauto
    next h' => rw [beq_iff_eq]; tauto

/-- A read of a reserved address of the system controller's block (R502), whatever its size. -/
theorem State.readSyscon_reserved (h : s.sysconReserved off = true) (e : Exc) (be : Lanes) :
    s.readSyscon e off be = .raise e (s.nmiCause nsrCBERR) := by
  obtain ⟨uart, timers, microWire, status⟩ := State.sysconReserved_iff.mp h
  unfold State.readSyscon
  rw [if_neg uart, if_neg timers, if_neg microWire]
  exact deviceRead_reserved (DevReply.sized_reserved ((s.syscon.read_status _ _ off be Lanes.word 0).trans status) _)

/-- A write of a reserved address of the system controller's block is lost (R502). -/
theorem State.writeSyscon_reserved (h : s.sysconReserved off = true) (be : Lanes) (v : Word) :
    s.writeSyscon off be v = s.nmiCause nsrCBERR := by
  obtain ⟨uart, timers, microWire, status⟩ := State.sysconReserved_iff.mp h
  have wrcr : off ≠ 0x30 := by
    rintro rfl
    cases status
  have refused : (s.syscon.write off be v).status = .reserved :=
    ((s.syscon.read_status false false off be be v).symm.trans (s.syscon.read_status false false off be Lanes.word 0)).trans status
  unfold State.writeSyscon
  by_cases size : (!sysconSizeOk off be) = true
  · rw [if_pos size]
  · rw [if_neg size, if_neg uart, if_neg timers, if_neg microWire, if_neg wrcr]
    exact deviceWrite_refused (by rw [refused]; decide)

end

section
variable {s : State} {b : Block} {off : Nat}

/-- A read of a reserved address of a block (R502), whatever its size. -/
theorem State.readBlock_reserved (h : s.blockReserved b off = true) (e : Exc) (be : Lanes) :
    s.readBlock e b off be = .raise e (s.nmiCause nsrCBERR) := by
  obtain ⟨running, reserved⟩ := Bool.and_eq_true_iff.mp h
  unfold State.readBlock
  rw [if_neg (by simpa using running)]
  cases b
  case uart => cases reserved
  all_goals refine deviceRead_reserved ?_
  all_goals rw [beq_iff_eq] at reserved
  case usb => exact DevReply.sized_reserved ((s.usb.readReg_status off Lanes.word 0).trans reserved) _
  case eth1 => exact DevReply.sized_reserved ((s.eth1.readReg_status off 0).trans reserved) _
  case atm => exact Atm.read_reserved reserved be
  case eth2 => exact DevReply.sized_reserved ((s.eth2.readReg_status off 0).trans reserved) _
  case pci => exact DevReply.sized_reserved ((s.pci.readReg_status s.board.nic off be Lanes.word 0).trans reserved) _

/-- A write of a reserved address of a block is lost (R502). -/
theorem State.writeBlock_reserved (h : s.blockReserved b off = true) (be : Lanes) (v : Word) :
    s.writeBlock b off be v = s.nmiCause nsrCBERR := by
  obtain ⟨running, reserved⟩ := Bool.and_eq_true_iff.mp h
  unfold State.writeBlock
  rw [if_neg (by simpa using running)]
  cases b
  case uart => cases reserved
  all_goals refine deviceWrite_refused (ne_of_eq_of_ne (b := BusStatus.reserved) ?_ (by decide))
  all_goals rw [beq_iff_eq] at reserved
  case usb =>
    have same : (s.usb.writeReg off be v).status = (s.usb.writeReg off Lanes.word 0).status :=
      (s.usb.readReg_status off be v).symm.trans (s.usb.readReg_status off Lanes.word 0)
    exact DevReply.sized_reserved (same.trans reserved) _
  case eth1 => exact DevReply.sized_reserved ((s.eth1.writeReg_status off v 0).trans reserved) _
  case atm => exact Atm.write_reserved reserved be v
  case eth2 => exact DevReply.sized_reserved ((s.eth2.writeReg_status off v 0).trans reserved) _
  case pci =>
    have same : (s.pci.writeReg s.board.nic off be v).status = (s.pci.writeReg s.board.nic off Lanes.word 0).status :=
      (s.pci.readReg_status s.board.nic off be be v).symm.trans (s.pci.readReg_status s.board.nic off be Lanes.word 0)
    exact DevReply.sized_reserved (same.trans reserved) _

end

end Sys2Proof.Machine
end

section
/-! PROOFS. Reads without the cache elsewhere than in SDRAM: boot ROM, reserved ranges, registers and bursts of them. -/
namespace Sys2Proof.Machine

variable {s u t : State} {e : Exc} {pa : PAddr} {a n : Nat}

/-! ### Reserved ranges -/

section
variable (hu : s.await (busSide (foldAddress pa)) = u)
include hu

/-- A read of the boot ROM of a size that is neither a word nor a doubleword (R138). -/
theorem State.busRead_romSize (h : u.region (foldAddress pa) = .rom) (hn : ¬ (n = 4 ∨ n = 8)) :
    s.busRead e pa n = (u.nmiCause nsrMAERR).openRead := by
  rw [State.busRead, hu, h]
  exact if_neg hn

theorem State.busRead_memReserved (h : u.region (foldAddress pa) = .memReserved) :
    s.busRead e pa n = (u.nmiCause nsrMAERR).openRead := by
  rw [State.busRead, hu, h]

theorem State.busRead_ibusReserved (h : u.region (foldAddress pa) = .ibusReserved) :
    s.busRead e pa n = (u.nmiCause nsrIBERR).openRead := by
  rw [State.busRead, hu, h]

/-! ### Registers -/

theorem State.busRead_syscon (h : u.region (foldAddress pa) = .syscon) :
    s.busRead e pa n = registerRead (foldAddress pa) n u fun be a t => t.readSyscon e (a % 0x1000 / 4 * 4) be := by
  rw [State.busRead, hu, h]

theorem State.busRead_block {b : Block} (h : u.region (foldAddress pa) = .block b) :
    s.busRead e pa n = registerRead (foldAddress pa) n u fun be a t => t.readBlock e b (blockOffset b a) be := by
  rw [State.busRead, hu, h]

end

section
variable {word : Lanes → Nat → State → Res Word}

theorem registerRead_single (h : a % 4 + n ≤ 4) : registerRead a n s word = takeBytes a n (word (lanesOf a n) a s) :=
  if_pos (decide_eq_true h)

theorem registerRead_burst (h : 4 < a % 4 + n) :
    registerRead a n s word = (registerBurst word (spanLanes a n) a s).bind fun _ t => t.openRead :=
  if_neg (by simpa [inOneWord] using h)

/-- A read of a word that is reserved returns the data-error bit (R502). -/
theorem registerRead_single_raise (h : a % 4 + n ≤ 4) (hw : ∀ be, word be a s = .raise e t) :
    registerRead a n s word = .raise e t := by
  rw [registerRead_single h, takeBytes, hw, Res.bind_raise]

/-- A burst whose first word is reserved ends there, and sets IRERR (log 34). -/
theorem registerRead_burst_raise (h : 4 < a % 4 + n) (hw : ∀ be, word be (a / 4 * 4) s = .raise e t) :
    registerRead a n s word = .raise e (t.nmiCause nsrIRERR) := by
  obtain ⟨be, rest, lanes⟩ : ∃ be rest, spanLanes a n = be :: rest := by
    refine List.exists_cons_of_ne_nil fun nil => ?_
    have length := congrArg List.length nil
    simp only [spanLanes, List.length_map, List.length_range, List.length_nil] at length
    omega
  rw [registerRead_burst h, registerBurst, lanes, readRegisters, hw, Res.bind_raise]
  rfl

/-- What is left behind a read. -/
theorem Res.holds_behind {α : Type} {p : State → Prop} {f : State → State} (h : ∀ t, p (f t)) (r : Res α) :
    (r.behind f).Holds p := by
  cases r with
  | ok => exact .ok (h _)
  | raise => exact .raise (h _)
  | fault => exact .fault

/-- A burst of registers sets IRERR when it has ended, whatever it has read (log 34). -/
theorem registerRead_burst_irerr (h : 4 < a % 4 + n) : (registerRead a n s word).Holds fun t => t.syscon.nsr.getLsbD 5 = true := by
  have set (t : State) : (t.nmiCause nsrIRERR).syscon.nsr.getLsbD 5 = true := by
    rw [State.nmiCause_syscon, BitVec.getLsbD_or, show nsrIRERR.getLsbD 5 = true from rfl, Bool.or_true]
  rw [registerRead_burst h]
  exact (Res.holds_behind set _).bind fun _ t ht => .ok ht

/-- A word read that a register answers (R502). -/
theorem registerRead_word {w : Word} (h : a % 4 = 0) (hw : word Lanes.word a s = .ok w t) :
    registerRead a 4 s word = .ok (w.setWidth 64) t := by
  have lanes : lanesOf a 4 = Lanes.word := by rw [lanesOf, h]; rfl
  have whole : fromWord a 4 w = w.setWidth 64 := by
    apply BitVec.eq_of_toNat_eq
    rw [fromWord, h, BitVec.toNat_ofNat, BitVec.toNat_setWidth]
    have lt : w.toNat < 2 ^ 32 := w.isLt
    omega
  rw [registerRead_single (by omega), lanes, hw, ← whole]
  rfl

end

theorem blockOffset_word (b : Block) (a : Nat) : blockOffset b (a / 4 * 4) = blockOffset b a := by
  cases b <;> simp only [blockOffset] <;> omega

/-! ### Word reads of the system controller and of the blocks -/

/-- The system controller's own registers stand beside those of the UART, the timers and the Micro Wire block (R501). -/
theorem State.readSyscon_own {off : Nat} {be : Lanes} (uart : ¬ (0x80 ≤ off ∧ off < 0xA0))
    (timers : ¬ (0xB0 ≤ off ∧ off < 0xC4)) (microWire : ¬ (0xD0 ≤ off ∧ off < 0xE4)) (size : sysconSizeOk off be = true)
    {d : Syscon} {w : Word}
    (h : s.syscon.read s.board.clksl s.board.endcen off be = { dev := d, data := some w }) :
    s.readSyscon e off be = .ok w { s with syscon := d } := by
  unfold State.readSyscon
  rw [if_neg uart, if_neg timers, if_neg microWire, size, DevReply.sized_true, h]
  rfl

theorem sysconSizeOk_word (off : Nat) : sysconSizeOk off Lanes.word = true := by
  unfold sysconSizeOk
  split <;> rfl

/-! ### Loads without the cache -/

theorem State.load_uncached {v : State} {va : Dword} {align : Nat}
    (ht : s.dataTarget false align va = .ok { pa := pa, cached := false } v) (lo n : Nat) :
    s.load align va lo n = v.busRead .dbe (inDoubleword pa lo) n := by
  rw [State.load, ht, Res.bind_ok]
  rfl

theorem signBytes_eq {n : Nat} (h : n ≤ 8) (d : Dword) : signBytes n d = (d.setWidth (8 * n)).signExtend 64 := by
  rw [signBytes, ← BitVec.setWidth_eq_extractLsb' (by omega)]

theorem zeroBytes_eq {n : Nat} (h : n ≤ 8) (d : Dword) : zeroBytes n d = (d.setWidth (8 * n)).setWidth 64 := by
  rw [zeroBytes, ← BitVec.setWidth_eq_extractLsb' (by omega)]

theorem zeroBytes_eight (d : Dword) : zeroBytes 8 d = d := by
  rw [zeroBytes_eq (by decide), BitVec.setWidth_eq, BitVec.setWidth_eq]

/-- Settles O34: a read by the region of its address, and the loads by the answer of their read. -/
theorem uncachedReadsElsewhere : Obligations.UncachedReadsElsewhere := by
  refine ⟨?_, ?_⟩
  · intro s e pa n h1 h8 a u off raises anyData answers
    refine ⟨fun h hn => State.busRead_rom rfl h hn, fun h hn => ⟨_, (State.busRead_romSize rfl h (by omega)).trans rfl⟩,
      fun h => State.busRead_romOutside rfl h, fun h => ⟨_, (State.busRead_memReserved rfl h).trans rfl⟩,
      fun h => ⟨_, (State.busRead_ibusReserved rfl h).trans rfl⟩, ?_, ?_, ?_, ?_⟩
    · rintro (⟨h, hr⟩ | ⟨b, h, hr⟩)
      · refine ⟨fun one => (State.busRead_syscon rfl h).trans
            (registerRead_single_raise one fun be => State.readSyscon_reserved hr e be),
          fun more => (State.busRead_syscon rfl h).trans (registerRead_burst_raise more fun be => ?_)⟩
        exact State.readSyscon_reserved (by rwa [show a / 4 * 4 % 0x1000 / 4 * 4 = a % 0x1000 / 4 * 4 by omega]) e be
      · refine ⟨fun one => (State.busRead_block rfl h).trans
            (registerRead_single_raise one fun be => State.readBlock_reserved hr e be),
          fun more => (State.busRead_block rfl h).trans (registerRead_burst_raise more fun be => ?_)⟩
        exact State.readBlock_reserved (by rwa [blockOffset_word]) e be
    · intro h more v t ht
      have holds : (s.busRead e pa n).Holds fun t => t.syscon.nsr.getLsbD 5 = true := by
        rcases h with h | ⟨b, h⟩
        · rw [State.busRead_syscon rfl h]
          exact registerRead_burst_irerr more
        · rw [State.busRead_block rfl h]
          exact registerRead_burst_irerr more
      rcases ht with ht | ht
      · rw [ht] at holds
        exact holds.of_ok
      · rw [ht] at holds
        exact holds.of_raise
    · rintro rfl ha h w d own hd
      have offset : a % 0x1000 / 4 * 4 = a % 0x1000 := by omega
      simp only [List.mem_cons, List.not_mem_nil, or_false, not_or] at own
      refine (State.busRead_syscon rfl h).trans (registerRead_word ha ?_)
      rw [offset]
      exact State.readSyscon_own (by omega) (by omega) (by omega) (sysconSizeOk_word _) hd
    · rintro rfl ha b h running w
      have answered {t : State} (hw : u.readBlock e b (off b) Lanes.word = .ok w t) : answers w t :=
        (State.busRead_block rfl h).trans (registerRead_word ha hw)
      refine ⟨fun d hb hd => answered ?_, fun d hb hd => answered ?_, fun d hb hd => answered ?_, fun d hb hd => answered ?_,
        fun d hb hd => answered ?_⟩
      all_goals
        subst hb
        unfold State.readBlock
        rw [if_neg (by rw [running]; decide)]
        exact (congrArg (fun r => deviceRead e _ r u) hd).trans rfl
  · intro rt base offset s v t pa d va b4 b8 old reads dbe gives
    have load {align lo n : Nat} {r : Res Dword} (h : reads align lo n r) : s.load align va lo n = r :=
      (State.load_uncached h.1 lo n).trans h.2
    have fails {i : Instr} {f : Dword → Dword} {align lo n : Nat} (h : reads align lo n (.raise .dbe t))
        (hi : exec i s = State.loadInto rt f (s.load align va lo n)) : dbe i := by
      rw [load h] at hi
      exact hi
    have given {i : Instr} {f : Dword → Dword} {align lo n : Nat} (h : reads align lo n (.ok d t))
        (hi : exec i s = State.loadInto rt f (s.load align va lo n)) : gives i (f d) := by
      rw [load h] at hi
      obtain ⟨z, hz, ok⟩ := State.loadInto_ok rt f d t
      exact ⟨z, hi.trans hz, ok⟩
    have signed {i : Instr} {n : Nat} (hn : n ≤ 8) (h : reads n b8 n (.ok d t))
        (hi : exec i s = State.loadInto rt (signBytes n) (s.load n va b8 n)) : gives i ((d.setWidth (8 * n)).signExtend 64) :=
      signBytes_eq hn d ▸ given h hi
    have zeroed {i : Instr} {n : Nat} (hn : n ≤ 8) (h : reads n b8 n (.ok d t))
        (hi : exec i s = State.loadInto rt (zeroBytes n) (s.load n va b8 n)) : gives i ((d.setWidth (8 * n)).setWidth 64) :=
      zeroBytes_eq hn d ▸ given h hi
    have b4_lt : b4 < 4 := Nat.mod_lt _ (by decide)
    have b8_lt : b8 < 8 := Nat.mod_lt _ (by decide)
    refine ⟨fun h => ⟨fails h (exec_lb ..), fails h (exec_lbu ..)⟩,
      fun h => ⟨fails h (exec_lh ..), fails h (exec_lhu ..)⟩,
      fun h => ⟨fails h (exec_lw ..), fun h64 => fails h (exec_lwu _ _ _ h64)⟩, fun h h64 => fails h (exec_ld _ _ _ h64),
      fun h => fails h (exec_lwl ..), fun h => fails h (exec_lwr ..), fun h h64 => fails h (exec_ldl _ _ _ h64),
      fun h h64 => fails h (exec_ldr _ _ _ h64),
      fun h => ⟨signed (n := 1) (by decide) h (exec_lb ..), zeroed (n := 1) (by decide) h (exec_lbu ..)⟩,
      fun h => ⟨signed (n := 2) (by decide) h (exec_lh ..), zeroed (n := 2) (by decide) h (exec_lhu ..)⟩,
      fun h => ⟨signed (n := 4) (by decide) h (exec_lw ..), fun h64 => zeroed (n := 4) (by decide) h (exec_lwu _ _ _ h64)⟩,
      fun h h64 => ?_, fun h => ?_, fun h => ?_, fun h h64 => ?_, fun h h64 => ?_⟩
    · have all := given h (exec_ld _ _ _ h64)
      rwa [zeroBytes_eight] at all
    · have merged := given h (exec_lwl ..)
      exact ⟨_, merged, fun i hi => byteOf_mergeWordLeft b4_lt hi _ _⟩
    · have merged := given h (exec_lwr ..)
      exact ⟨_, merged, fun i hi => byteOf_mergeWordRight b4 hi _ _⟩
    · have merged := given h (exec_ldl _ _ _ h64)
      exact ⟨_, merged, fun i hi => dwordByte_mergeDwordLeft b8_lt hi _ _⟩
    · have merged := given h (exec_ldr _ _ _ h64)
      exact ⟨_, merged, fun i hi => dwordByte_mergeDwordRight b8 i _ _⟩

end Sys2Proof.Machine
end

section
/-! PROOFS. Posted writes: what is posted, what a read waits for, and what a write does when it lands. -/
namespace Sys2Proof.Machine

variable {s v : State} {pa : PAddr} {n : Nat}

/-! ### A store elsewhere than to SDRAM -/

theorem State.busWrite_posted (h : s.regionAhead (foldAddress pa) ≠ .sdram) (n : Nat) (d : Dword) :
    s.busWrite pa n d = s.post (.single pa n d) := by
  unfold State.busWrite
  dsimp only
  split
  next hs => exact absurd hs h
  next => rfl

theorem State.store_uncached {va : Dword} {align : Nat} (ht : s.dataTarget true align va = .ok { pa := pa, cached := false } v)
    (lo n : Nat) (d : Dword) : s.store align va lo n d = .ok () (v.busWrite (inDoubleword pa lo) n d) := by
  rw [State.store, ht, Res.bind_ok]
  rfl

/-- A store elsewhere than to SDRAM completes when its write is posted (R135, R515). -/
theorem State.store_posts {va : Dword} {align lo : Nat} {d : Dword}
    (ht : s.dataTarget true align va = .ok { pa := pa, cached := false } v)
    (hr : v.regionAhead (foldAddress (inDoubleword pa lo)) ≠ .sdram) :
    ∃ t, (s.store align va lo n d).finish = .next t ∧
      WritesNothing { v.room with posted := v.room.posted ++ [.single (inDoubleword pa lo) n d] } t := by
  rw [State.store_uncached ht, State.busWrite_posted hr]
  exact ⟨_, rfl, State.retire_writesNothing _⟩

theorem toNat_wordLeft {b : Nat} (hb : b < 4) (w : Word) : (zext32 (w >>> (24 - 8 * b))).toNat = w.toNat / 256 ^ (3 - b) := by
  rw [zext32, BitVec.zeroExtend, BitVec.toNat_setWidth_of_le (by decide), BitVec.toNat_ushiftRight, Nat.shiftRight_eq_div_pow,
    show 24 - 8 * b = 8 * (3 - b) by omega, pow_mul]
  rfl

theorem toNat_dwordLeft {b : Nat} (hb : b < 8) (x : Dword) : (x >>> (56 - 8 * b)).toNat = x.toNat / 256 ^ (7 - b) := by
  rw [BitVec.toNat_ushiftRight, Nat.shiftRight_eq_div_pow, show 56 - 8 * b = 8 * (7 - b) by omega, pow_mul]
  rfl

/-! ### What a read waits for -/

/-- Behind the writes that a read waits for, none is one of its side (R163). -/
theorem landCount_side (side : BusSide) (ws : List PostedWrite) : ∀ w ∈ ws.drop (landCount side ws), w.side ≠ side := by
  induction ws with
  | nil => simp
  | cons w ws ih =>
    rw [landCount]
    split
    next => exact ih
    next h =>
      rw [not_not.mp h] at ih
      split
      next => exact ih
      next hw =>
        intro x hx
        rcases List.mem_cons.mp hx with rfl | hx
        · exact fun c => hw (.inr c)
        · exact ih x hx

/-- A read of an IBUS target waits for all posted writes (R163 3). -/
theorem landCount_ibus (ws : List PostedWrite) : landCount .ibus ws = ws.length := by
  induction ws with
  | nil => rfl
  | cons w ws ih =>
    rw [landCount, ih, List.length_cons]
    split
    next => rfl
    next h => rw [if_pos (.inl rfl), not_not.mp h]

theorem State.await_posted (s : State) (side : BusSide) : (s.await side).posted = s.posted.drop (landCount side s.posted) :=
  s.landWrites_posted _

/-! ### Landing -/

/-- A write of the memory side waits until the write FIFO is empty (R163). -/
theorem State.land_single_memory (h : busSide (foldAddress pa) = .memory) (n : Nat) (x : Dword) :
    s.land (.single pa n x) = ({ s with writeFifo := [] } : State).landSingle pa n x := by
  have fifo : (PostedWrite.single pa n x).fifo s.writeFifo = [] := if_pos h
  rw [State.land, fifo]

theorem State.land_burst_memory (h : busSide (foldAddress pa) = .memory) (x : BitVec 128) :
    s.land (.burst pa x) = ({ s with writeFifo := [] } : State).landBurst pa x := by
  have fifo : (PostedWrite.burst pa x).fifo s.writeFifo = [] := if_pos h
  rw [State.land, fifo]

/-- A write elsewhere leaves the write FIFO alone. -/
theorem State.land_single_other (h : busSide (foldAddress pa) ≠ .memory) (n : Nat) (x : Dword) :
    s.land (.single pa n x) = s.landSingle pa n x := by
  have fifo : (PostedWrite.single pa n x).fifo s.writeFifo = s.writeFifo := if_neg h
  rw [State.land, fifo]

theorem State.land_burst_other (h : busSide (foldAddress pa) ≠ .memory) (x : BitVec 128) :
    s.land (.burst pa x) = s.landBurst pa x := by
  have fifo : (PostedWrite.burst pa x).fifo s.writeFifo = s.writeFifo := if_neg h
  rw [State.land, fifo]

theorem State.landSingle_illegal (h : s.region (foldAddress pa) = .memReserved ∨ s.region (foldAddress pa) = .romOutside)
    (n : Nat) (x : Dword) : s.landSingle pa n x = s.nmiCause nsrMAERR := by
  rcases h with h | h <;> rw [State.landSingle, h]

theorem State.landBurst_illegal (h : s.region (foldAddress pa) = .memReserved ∨ s.region (foldAddress pa) = .romOutside)
    (x : BitVec 128) : s.landBurst pa x = s.nmiCause nsrMAERR := by
  rcases h with h | h <;> rw [State.landBurst, h]

/-- A write of more than one register is lost and sets IRERR, and CBERR at most beside it (log 34). -/
theorem registerLost_cause (reserved : Nat → Bool) (count a : Nat) (s : State) :
    ∃ c, registerLost reserved count a s = s.nmiCause (nsrIRERR ||| c) ∧ c &&& nsrCBERR = c := by
  refine ⟨_, rfl, ?_⟩
  split <;> rfl

theorem registerWrite_single {a n : Nat} (h : a % 4 + n ≤ 4) (reserved : Nat → Bool) (word : State) :
    registerWrite a n s reserved word = word := if_pos (decide_eq_true h)

theorem registerWrite_burst {a n : Nat} (h : ¬ a % 4 + n ≤ 4) (reserved : Nat → Bool) (word : State) :
    registerWrite a n s reserved word = registerLost reserved ((a % 4 + n + 3) / 4) a s :=
  if_neg (by simpa [inOneWord] using h)

/-- A write of the system controller's block lands. -/
theorem State.land_single_syscon (h : s.region (foldAddress pa) = .syscon) (n : Nat) (x : Dword) : s.land (.single pa n x) =
    registerWrite (foldAddress pa) n s (fun a => s.sysconReserved (a % 0x1000))
      (s.writeSyscon (foldAddress pa % 0x1000 / 4 * 4) (lanesOf (foldAddress pa) n) (toWord (foldAddress pa) x)) := by
  rw [State.land_single_other (by rw [busSide_of_region h]; rintro ⟨⟩), State.landSingle, h]

/-- A write of the registers of a block lands. -/
theorem State.land_single_block {b : Block} (h : s.region (foldAddress pa) = .block b) (n : Nat) (x : Dword) :
    s.land (.single pa n x) = registerWrite (foldAddress pa) n s (fun a => s.blockReserved b (blockOffset b a))
      (s.writeBlock b (blockOffset b (foldAddress pa)) (lanesOf (foldAddress pa) n) (toWord (foldAddress pa) x)) := by
  rw [State.land_single_other (by rw [busSide_of_region h]; rintro ⟨⟩), State.landSingle, h]

theorem State.land_burst_syscon (h : s.region (foldAddress pa) = .syscon) (x : BitVec 128) : s.land (.burst pa x) =
    registerLost (fun a => s.sysconReserved (a % 0x1000)) 4 (foldAddress pa) s := by
  rw [State.land_burst_other (by rw [busSide_of_region h]; rintro ⟨⟩), State.landBurst, h]

theorem State.land_burst_block {b : Block} (h : s.region (foldAddress pa) = .block b) (x : BitVec 128) : s.land (.burst pa x) =
    registerLost (fun a => s.blockReserved b (blockOffset b a)) 4 (foldAddress pa) s := by
  rw [State.land_burst_other (by rw [busSide_of_region h]; rintro ⟨⟩), State.landBurst, h]

/-- Settles O35: the stores that post, the waiting of reads, and the landing of writes by their region. -/
theorem postedWrites : Obligations.PostedWrites := by
  refine ⟨?_, fun s side => ⟨⟨_, s.await_posted side⟩, ?_, ?_, ?_, rfl, s.await_landedByte⟩, fun s old => rfl, ?_⟩
  · intro rt base offset s v pa va x b4 b8 posts
    have b4_lt : b4 < 4 := Nat.mod_lt _ (by decide)
    have b8_lt : b8 < 8 := Nat.mod_lt _ (by decide)
    have posted {i : Instr} {align lo n y : Nat} {d : Dword} (hi : exec i s = (s.store align va lo n d).finish)
        (hy : d.toNat = y) : posts align lo n y i := by
      intro ht hr
      obtain ⟨t, done, nothing⟩ := State.store_posts ht hr
      exact ⟨t, d, hi.trans done, congrArg (· % 256 ^ n) hy, nothing⟩
    exact ⟨fun room => if_pos room, posted (exec_sb ..) rfl, posted (exec_sh ..) rfl, posted (exec_sw ..) rfl,
      posted (exec_swl ..) (toNat_wordLeft b4_lt _), posted (exec_swr ..) rfl, fun h64 => ⟨posted (exec_sd _ _ _ h64) rfl,
      posted (exec_sdl _ _ _ h64) (toNat_dwordLeft b8_lt _), posted (exec_sdr _ _ _ h64) rfl⟩⟩
  · rw [s.await_posted]
    exact landCount_side side s.posted
  · exact fun c => congrArg (Memory.byte · c) (s.await_mem side)
  · rw [s.await_posted, landCount_ibus, List.drop_length]
  · intro s pa n x line h1 h8 a lands single be w m off
    refine ⟨fun h => ?_, fun h => ?_, fun h => ⟨fun one hr => ?_, fun one hr => ?_, fun more => ?_, ?_⟩,
      fun b h => ⟨fun one hr => ?_, fun one hr => ?_, fun more => ?_, ?_⟩⟩
    · have side : busSide a = .memory := h.elim busSide_of_region busSide_of_region
      exact ⟨(State.land_single_memory side n x).trans (State.landSingle_illegal (s := m) h n x),
        (State.land_burst_memory side line).trans (State.landBurst_illegal (s := m) h line)⟩
    · have side : busSide a ≠ .memory := by rw [busSide_of_region h]; decide
      refine ⟨(State.land_single_other side n x).trans ?_, (State.land_burst_other side line).trans ?_⟩
      · rw [State.landSingle, h]
      · rw [State.landBurst, h]
    · exact (State.land_single_syscon h n x).trans ((registerWrite_single one _ _).trans (State.writeSyscon_reserved hr _ _))
    · exact (State.land_single_syscon h n x).trans (registerWrite_single one _ _)
    · obtain ⟨c, lost, low⟩ := registerLost_cause (fun a => s.sysconReserved (a % 0x1000)) ((a % 4 + n + 3) / 4) a s
      exact ⟨c, (State.land_single_syscon h n x).trans ((registerWrite_burst more _ _).trans lost), low⟩
    · obtain ⟨c, lost, low⟩ := registerLost_cause (fun a => s.sysconReserved (a % 0x1000)) 4 a s
      exact ⟨c, (State.land_burst_syscon h line).trans lost, low⟩
    · exact (State.land_single_block h n x).trans ((registerWrite_single one _ _).trans (State.writeBlock_reserved hr _ _))
    · exact (State.land_single_block h n x).trans (registerWrite_single one _ _)
    · obtain ⟨c, lost, low⟩ := registerLost_cause (fun a => s.blockReserved b (blockOffset b a)) ((a % 4 + n + 3) / 4) a s
      exact ⟨c, (State.land_single_block h n x).trans ((registerWrite_burst more _ _).trans lost), low⟩
    · obtain ⟨c, lost, low⟩ := registerLost_cause (fun a => s.blockReserved b (blockOffset b a)) 4 a s
      exact ⟨c, (State.land_burst_block h line).trans lost, low⟩

end Sys2Proof.Machine
end

section
/-! PROOFS. The decoder: the table that a word is looked up in, what no table lists, and that every instruction comes back
from its encoding. -/
namespace Sys2Proof

variable {w : Word}

/-! ### From the primary table to the others (R184, R187) -/

theorem decode_of_special (h : opOf w = 0x00) : decode w = decodeSpecial w := by rw [decode, h]; rfl

theorem decode_of_regimm (h : opOf w = 0x01) : decode w = decodeRegimm w := by rw [decode, h]; rfl

theorem decode_of_cop0 (h : opOf w = 0x10) : decode w = decodeCop0 w := by rw [decode, h]; rfl

theorem decodeSpecial_of_macc (h : functOf w = 0x28) : decodeSpecial w = decodeMacc w := by rw [decodeSpecial, h]; rfl

theorem decodeSpecial_of_dmacc (h : functOf w = 0x29) : decodeSpecial w = decodeDmacc w := by rw [decodeSpecial, h]; rfl

/-- The bit CO of a COP0 word is the highest of `rs`. -/
theorem getLsbD_co (w : Word) : w.getLsbD 25 = (rsOf w).getLsbD 4 := by simp [rsOf]

theorem decode_of_co (h : opOf w = 0x10) (co : (rsOf w).getLsbD 4 = true) : decode w = decodeCo w := by
  rw [decode_of_cop0 h, decodeCop0, getLsbD_co, if_pos co]

theorem decode_of_move0 (h : opOf w = 0x10) (co : (rsOf w).getLsbD 4 = false) : decode w = decodeMove0 w := by
  rw [decode_of_cop0 h, decodeCop0, getLsbD_co, co, if_neg Bool.false_ne_true]

theorem decode_of_bc0 (h : opOf w = 0x10) (bc : rsOf w = 0x08) : decode w = decodeBc0 w := by
  rw [decode_of_move0 h (by rw [bc]; rfl), decodeMove0, bc]; rfl

/-! ### Decoding an encoded instruction

In each table the selecting field of the encoding picks the arm (`show Except.ok _ = _`), and the operands are read back from
the fields they were written to. -/

theorem decode_encode (i : Instr) : decode (encode i) = .ok i := by
  cases i with
  | lb | lbu | lh | lhu | lw | lwl | lwr | lwu | ld | ldl | ldr | sb | sh | sw | swl | swr | sd | sdl | sdr
  | addi | addiu | slti | sltiu | andi | ori | xori | lui | daddi | daddiu
  | beq | bne | blez | bgtz | beql | bnel | blezl | bgtzl | cache | ll | lld | sc | scd
  | lwc1 | ldc1 | swc1 | sdc1 | lwc2 | ldc2 | swc2 | sdc2 =>
    rw [encode, decode, opOf_encodeI]
    show Except.ok _ = _
    simp only [rsOf_encodeI, rtOf_encodeI, immOf_encodeI]
  | j | jal | jalx | cop1 | cop2 =>
    rw [encode, decode, opOf_encodeJ]
    show Except.ok _ = _
    rw [targetOf_encodeJ]
  | add | addu | sub | subu | and | or | xor | nor | slt | sltu | dadd | daddu | dsub | dsubu
  | sll | srl | sra | sllv | srlv | srav | dsll | dsrl | dsra | dsllv | dsrlv | dsrav | dsll32 | dsrl32 | dsra32
  | mult | multu | div | divu | dmult | dmultu | ddiv | ddivu | mfhi | mthi | mflo | mtlo | jr | jalr | sync =>
    rw [encode, decode_of_special (opOf_encodeR ..), decodeSpecial, functOf_encodeR]
    show Except.ok _ = _
    simp only [rsOf_encodeR, rtOf_encodeR, rdOf_encodeR, saOf_encodeR]
  | macc | maccu | macchi | macchiu | maccs | maccus | macchis | macchius =>
    rw [encode, decode_of_special (opOf_encodeR ..), decodeSpecial_of_macc (functOf_encodeR ..), decodeMacc, maccOf_encodeR]
    show Except.ok _ = _
    rw [rsOf_encodeR, rtOf_encodeR, rdOf_encodeR]
  | dmacc | dmaccu | dmacchi | dmacchiu | dmaccs | dmaccus | dmacchis | dmacchius =>
    rw [encode, decode_of_special (opOf_encodeR ..), decodeSpecial_of_dmacc (functOf_encodeR ..), decodeDmacc, maccOf_encodeR]
    show Except.ok _ = _
    rw [rsOf_encodeR, rtOf_encodeR, rdOf_encodeR]
  | syscall | brk =>
    rw [encode, decode_of_special (opOf_encodeCode ..), decodeSpecial, functOf_encodeCode]
    show Except.ok _ = _
    rw [code20Of_encodeCode]
  | tge | tgeu | tlt | tltu | teq | tne =>
    rw [encode, decode_of_special (opOf_encodeTrap ..), decodeSpecial, functOf_encodeTrap]
    show Except.ok _ = _
    rw [rsOf_encodeTrap, rtOf_encodeTrap, code10Of_encodeTrap]
  | bltz | bgez | bltzl | bgezl | bltzal | bgezal | bltzall | bgezall | tgei | tgeiu | tlti | tltiu | teqi | tnei =>
    rw [encode, decode_of_regimm (opOf_encodeI ..), decodeRegimm, rtOf_encodeI]
    show Except.ok _ = _
    rw [rsOf_encodeI, immOf_encodeI]
  | mfc0 | mtc0 | dmfc0 | dmtc0 =>
    rw [encode, decode_of_move0 (opOf_encodeR ..) (by rw [rsOf_encodeR]; rfl), decodeMove0, rsOf_encodeR]
    show Except.ok _ = _
    rw [rtOf_encodeR, rdOf_encodeR]
  | bc0f | bc0t | bc0fl | bc0tl =>
    rw [encode, decode_of_bc0 (opOf_encodeI ..) (rsOf_encodeI ..), decodeBc0, rtOf_encodeI]
    show Except.ok _ = _
    rw [immOf_encodeI]
  | tlbr | tlbwi | tlbwr | tlbp | eret | standby | suspend | hibernate =>
    rw [encode, decode_of_co (opOf_encodeR ..) (by rw [rsOf_encodeR]; rfl), decodeCo, functOf_encodeR]
    rfl

/-- Settles O4. -/
theorem decodeEncodeRoundTrip : Obligations.DecodeEncodeRoundTrip := decode_encode

theorem decode_of_eq_encode {i : Instr} (h : w = encode i) : decode w = .ok i := h ▸ decode_encode i

/-- Settles O3: each word is computed to be the encoding of its instruction. -/
theorem encodingsOfTheManualDecode : Obligations.EncodingsOfTheManualDecode := by
  unfold Obligations.EncodingsOfTheManualDecode
  and_intros
  all_goals exact decode_of_eq_encode rfl

/-! ### What the tables leave out -/

theorem decode_reserved (h : opOf w ∈ ([0x13, 0x1C, 0x1E, 0x1F, 0x33, 0x3B] : List (BitVec 6))) :
    decode w = .error .reserved := by
  simp only [List.mem_cons, List.not_mem_nil, or_false] at h
  rcases h with h | h | h | h | h | h
  all_goals rw [decode, h]; rfl

theorem decodeSpecial_reserved
    (h : functOf w ∈ ([0x01, 0x05, 0x0A, 0x0B, 0x0E, 0x15, 0x35, 0x37, 0x39, 0x3D] : List (BitVec 6))) :
    decodeSpecial w = .error .reserved := by
  simp only [List.mem_cons, List.not_mem_nil, or_false] at h
  rcases h with h | h | h | h | h | h | h | h | h | h
  all_goals rw [decodeSpecial, h]; rfl

theorem decodeRegimm_reserved (h : rtOf w ∈ ([0x04, 0x05, 0x06, 0x07, 0x0D, 0x0F] : List Reg)) :
    decodeRegimm w = .error .reserved := by
  simp only [List.mem_cons, List.not_mem_nil, or_false] at h
  rcases h with h | h | h | h | h | h
  all_goals rw [decodeRegimm, h]; rfl

/-- An `rt` from 0x14 on is above every arm of the table. -/
theorem decodeRegimm_reserved_of_le (h : 0x14 ≤ (rtOf w).toNat) : decodeRegimm w = .error .reserved := by
  unfold decodeRegimm
  split
  case h_15 => rfl
  all_goals omega

theorem decodeMove0_reserved (h : rsOf w ∉ ([0, 1, 4, 5, 8] : List Reg)) : decodeMove0 w = .error .reservedCop0 := by
  simp only [List.mem_cons, List.not_mem_nil, or_false, not_or, ← BitVec.toNat_inj, BitVec.reduceToNat] at h
  unfold decodeMove0
  split
  case h_6 => rfl
  all_goals omega

theorem decodeBc0_reserved (h : 4 ≤ (rtOf w).toNat) : decodeBc0 w = .error .reservedCop0 := by
  unfold decodeBc0
  split
  case h_5 => rfl
  all_goals omega

theorem decodeCo_reserved (h : functOf w ∉ ([0x01, 0x02, 0x06, 0x08, 0x18, 0x21, 0x22, 0x23] : List (BitVec 6))) :
    decodeCo w = .error .reservedCop0 := by
  simp only [List.mem_cons, List.not_mem_nil, or_false, not_or, ← BitVec.toNat_inj, BitVec.reduceToNat] at h
  unfold decodeCo
  split
  case h_9 => rfl
  all_goals omega

/-! ### COP0 words with CO = 1 (R187) -/

/-- The word: bits 24:6 are not decoded, so `encode` writes 0 there. -/
def encodeCo (low : BitVec 19) (f : BitVec 6) : Word := ((0x10#6 ++ 1#1) ++ low) ++ f

theorem getLsbD_encodeCo (low : BitVec 19) (f : BitVec 6) (i : Nat) :
    (encodeCo low f).getLsbD i = (((0x10#6 ++ 1#1) ++ low) ++ f).getLsbD i := rfl

@[simp] theorem opOf_encodeCo (low : BitVec 19) (f : BitVec 6) : opOf (encodeCo low f) = 0x10 := by
  apply BitVec.eq_of_getLsbD_eq; intro i hi
  simp only [opOf, BitVec.getLsbD_extractLsb', getLsbD_encodeCo, BitVec.getLsbD_append]
  interval_cases i <;> simp

theorem rsOf_encodeCo_co (low : BitVec 19) (f : BitVec 6) : (rsOf (encodeCo low f)).getLsbD 4 = true := by
  rw [← getLsbD_co, getLsbD_encodeCo, BitVec.getLsbD_append, BitVec.getLsbD_append]
  rfl

@[simp] theorem functOf_encodeCo (low : BitVec 19) (f : BitVec 6) : functOf (encodeCo low f) = f := by
  apply BitVec.eq_of_getLsbD_eq; intro i hi
  simp only [functOf, BitVec.getLsbD_extractLsb', getLsbD_encodeCo, BitVec.getLsbD_append]
  interval_cases i <;> simp

/-- Settles O47: fifteen arms that only trap, and the words that each table leaves out. -/
theorem unimplementedInstructionsTrap : Obligations.UnimplementedInstructionsTrap := by
  intro rt base offset rest code low rs s ri cpu
  refine ⟨rfl, rfl, rfl, rfl, rfl, rfl, rfl, rfl, rfl, rfl, rfl, rfl, rfl, rfl, rfl, ?_, ?_, ?_, ?_, ?_, ?_, ?_⟩
  · intro op h
    show decode (encodeJ op rest) = _
    exact decode_reserved (by rwa [opOf_encodeJ])
  · intro f h
    show decode (encodeCode code f) = _
    rw [decode_of_special (opOf_encodeCode ..), decodeSpecial_reserved (by rwa [functOf_encodeCode])]
  · intro br h
    show decode (encodeI 1 rs br offset) = _
    rw [decode_of_regimm (opOf_encodeI ..), decodeRegimm_reserved (by rwa [rtOf_encodeI])]
  · intro br h
    show decode (encodeI 1 rs br offset) = _
    rw [decode_of_regimm (opOf_encodeI ..), decodeRegimm_reserved_of_le (by rwa [rtOf_encodeI])]
  · intro lt h
    show decode (encodeI 0x10 rs rt offset) = _
    rw [decode_of_move0 (opOf_encodeI ..), decodeMove0_reserved (by rwa [rsOf_encodeI])]
    rw [rsOf_encodeI]
    exact Nat.testBit_lt_two_pow lt
  · intro h
    show decode (encodeI 0x10 8 rt offset) = _
    rw [decode_of_bc0 (opOf_encodeI ..) (rsOf_encodeI ..), decodeBc0_reserved (by rwa [rtOf_encodeI])]
  · intro f h
    show decode (encodeCo low f) = _
    rw [decode_of_co (opOf_encodeCo ..) (rsOf_encodeCo_co ..), decodeCo_reserved (by rwa [functOf_encodeCo])]

end Sys2Proof
end

section
/-! PROOFS. Loads and stores without the cache that refer to SDRAM: the bytes a load takes, and those a store leaves. -/
namespace Sys2Proof.Machine

/-! ### The bytes of a number read -/

section
variable (m : Memory) (a : Nat)

theorem Memory.read_div_mod {n i : Nat} (h : i < n) : m.read a n / 256 ^ i % 256 = (m.byte (a + i)).toNat := by
  induction i generalizing a n with
  | zero =>
    obtain ⟨n, rfl⟩ : ∃ k, n = k + 1 := ⟨n - 1, by omega⟩
    have lt : (m.byte a).toNat < 256 := (m.byte a).isLt
    rw [Memory.read, pow_zero, Nat.div_one, Nat.add_zero a]
    omega
  | succ i ih =>
    obtain ⟨n, rfl⟩ : ∃ k, n = k + 1 := ⟨n - 1, by omega⟩
    have lt : (m.byte a).toNat < 256 := (m.byte a).isLt
    have tail : m.read a (n + 1) / 256 = m.read (a + 1) n := by rw [Memory.read]; omega
    rw [pow_succ', ← Nat.div_div_eq_div_mul, tail, ih (a + 1) (by omega), Nat.add_right_comm, Nat.add_assoc]

theorem Memory.read_one : m.read a 1 = (m.byte a).toNat := rfl

theorem Memory.read_two : m.read a 2 = (m.byte (a + 1) ++ m.byte a).toNat := by
  have lt : (m.byte a).toNat < 2 ^ 8 := (m.byte a).isLt
  rw [BitVec.toNat_append, ← Nat.shiftLeft_add_eq_or_of_lt lt, Nat.shiftLeft_eq, Memory.read, Memory.read_one]
  omega

variable {n : Nat} (hn : n ≤ 8)
include hn

theorem Memory.read_lt_dword : m.read a n < 2 ^ 64 :=
  (m.read_lt a n).trans_le (Nat.pow_le_pow_right (by decide) hn)

/-- Byte `i` of a number read is the byte at the `i`-th address (R101). -/
theorem dwordByte_read {i : Nat} (hi : i < n) : dwordByte (BitVec.ofNat 64 (m.read a n)) i = m.byte (a + i) := by
  apply BitVec.eq_of_toNat_eq
  rw [dwordByte, toNat_extractLsb', BitVec.toNat_ofNat, Nat.mod_eq_of_lt (m.read_lt_dword a hn), pow_mul]
  exact m.read_div_mod a hi

theorem signBytes_read : signBytes n (BitVec.ofNat 64 (m.read a n)) = (BitVec.ofNat (8 * n) (m.read a n)).signExtend 64 := by
  rw [signBytes, extractLsb'_zero_ofNat (by omega)]

theorem zeroBytes_read : zeroBytes n (BitVec.ofNat 64 (m.read a n)) = BitVec.ofNat 64 (m.read a n) := by
  have lt : m.read a n < 2 ^ (8 * n) := (m.read_lt a n).trans_eq (pow_mul 2 8 n).symm
  rw [zeroBytes, extractLsb'_zero_ofNat (by omega), BitVec.zeroExtend, BitVec.setWidth_ofNat_of_le_of_lt (by omega) lt]

end

/-! ### References to SDRAM -/

section
variable {s u v : State} {va : Dword} {align lo a : Nat}

/-- The checks of a reference leave memory alone. -/
theorem State.dataTarget_mem (s : State) (w : Bool) (align : Nat) (va : Dword) :
    (s.dataTarget w align va).Holds fun t => t.mem = s.mem := by
  unfold State.dataTarget
  split
  next => exact .raise rfl
  next =>
    rcases s.translate_cases w va with ⟨t, h⟩ | ⟨e, b, h⟩ <;> rw [h]
    · rw [Res.bind_ok, State.checkWatch]
      split_ifs
      exacts [.ok rfl, .raise rfl, .ok rfl]
    · exact .raise rfl

/-- A load from SDRAM takes the bytes at the physical address, once the writes of the memory side have landed (R163). -/
theorem RefersToSdram.load (r : RefersToSdram s false align va lo a u) (k : Nat) :
    s.load align va lo k = .ok (BitVec.ofNat 64 (u.mem.read a k)) u := by
  obtain ⟨pa, v, target, rfl, rfl, region⟩ := r
  have waits : v.await (busSide (foldAddress (inDoubleword pa lo))) = v.await .memory := State.await_busSide region rfl
  rw [State.load_uncached target, State.busRead_sdram waits region]

/-- An instruction that loads from SDRAM writes `rt` and nothing else (R220). -/
theorem RefersToSdram.exec_load {i : Instr} {rt : Reg} {f : Dword → Dword} {k : Nat} (r : RefersToSdram s false align va lo a u)
    (hi : exec i s = State.loadInto rt f (s.load align va lo k)) :
    ∃ t, exec i s = .next t ∧ WritesOnly u t rt (f (BitVec.ofNat 64 (u.mem.read a k))) := by
  rw [hi, r.load]
  exact State.loadInto_ok ..

theorem State.postMemory_eq_room (v : State) (a n x : Nat) : v.postMemory a n x =
    { v.room with posted := v.room.posted ++ [.memory (v.room.mem.cells a n)], mem := v.room.mem.write a n x } := by
  rw [v.lands_room.mem]
  rfl

/-- What a store does that has room for its write. -/
theorem State.retire_storesOnly (h : u.mem.wf = true) (a n x : Nat) :
    StoresOnly u (State.retire { u with posted := u.posted ++ [.memory (u.mem.cells a n)], mem := u.mem.write a n x }) a n x where
  inside _ hi := Memory.byte_write_inside h a n x hi
  outside _ hc := Memory.byte_write_outside u.mem a n x hc
  registers _ := rfl
  hi := rfl
  lo := rfl
  free := rfl
  retired := State.retire_retired rfl rfl rfl
  posted := rfl
  rest := rfl

/-- An instruction that stores to SDRAM writes its bytes at the physical address, and posts them (R163). -/
theorem RefersToSdram.exec_store {i : Instr} {k : Nat} {d : Dword} (r : RefersToSdram s true align va lo a u)
    (hc : s.memoryCanonical = true) (hi : exec i s = (s.store align va lo k d).finish) :
    ∃ t, exec i s = .next t ∧ StoresOnly u t a k d.toNat := by
  obtain ⟨pa, v, target, rfl, rfl, region⟩ := r
  have mem : v.mem = s.mem := (target ▸ s.dataTarget_mem true align va : Res.Holds _ (.ok _ v)).of_ok
  have wf : v.room.mem.wf = true := (v.lands_room.mem.trans mem) ▸ hc
  have posts : v.busWrite (inDoubleword pa lo) k d = v.postMemory (foldAddress (inDoubleword pa lo)) k d.toNat := by
    rw [State.busWrite, region]
  rw [hi, State.store_uncached target, posts, State.postMemory_eq_room, Res.finish_ok]
  exact ⟨_, rfl, State.retire_storesOnly wf _ _ _⟩

end

/-- Settles O30: each form of a load by the bytes that its read takes. -/
theorem uncachedLoads : Obligations.UncachedLoads := by
  refine ⟨?_, ?_⟩
  · intro rt base offset s u a va refers
    have loads {i : Instr} {f : Dword → Dword} {n : Nat} {x : Dword} (r : refers n)
        (hi : exec i s = State.loadInto rt f (s.load n va (va.toNat % 8) n))
        (hx : f (BitVec.ofNat 64 (u.mem.read a n)) = x) : ∃ t, exec i s = .next t ∧ WritesOnly u t rt x :=
      hx ▸ r.exec_load hi
    have byte : BitVec.ofNat 8 (u.mem.read a 1) = u.mem.byte a := by rw [Memory.read_one, BitVec.ofNat_toNat, BitVec.setWidth_eq]
    have half : BitVec.ofNat 16 (u.mem.read a 2) = u.mem.byte (a + 1) ++ u.mem.byte a := by
      rw [Memory.read_two, BitVec.ofNat_toNat, BitVec.setWidth_eq]
    have signed {n : Nat} (hn : n ≤ 8) := signBytes_read u.mem a hn
    have zeroed {n : Nat} (hn : n ≤ 8) := zeroBytes_read u.mem a hn
    refine ⟨fun r => loads r (exec_lb ..) ?_, fun r => loads r (exec_lbu ..) ?_, fun r => loads r (exec_lh ..) ?_,
      fun r => loads r (exec_lhu ..) ?_, fun r => loads r (exec_lw ..) (signed (by decide)),
      fun r h64 => loads r (exec_lwu _ _ _ h64) (zeroed (by decide)),
      fun r h64 => loads r (exec_ld _ _ _ h64) (zeroed (by decide))⟩
    · exact byte ▸ signed (n := 1) (by decide)
    · rw [zeroed (by decide), Memory.read_one, BitVec.ofNat_toNat]
    · exact half ▸ signed (n := 2) (by decide)
    · rw [zeroed (by decide), Memory.read_two, BitVec.ofNat_toNat]
  · intro rt base offset s u a va b4 b8 old
    have b4_lt : b4 < 4 := Nat.mod_lt _ (by decide)
    have b8_lt : b8 < 8 := Nat.mod_lt _ (by decide)
    refine ⟨fun r => ?_, fun r => ?_, fun r h64 => ?_, fun r h64 => ?_⟩
    · obtain ⟨t, ht, ok⟩ := r.exec_load (exec_lwl ..)
      exact ⟨t, _, ht, ok, fun i hi => (byteOf_mergeWordLeft b4_lt hi _ _).trans (ite_congr rfl
        (fun _ => dwordByte_read _ a (by omega : b4 + 1 ≤ 8) (by omega)) fun _ => rfl)⟩
    · obtain ⟨t, ht, ok⟩ := r.exec_load (exec_lwr ..)
      exact ⟨t, _, ht, ok, fun i hi => (byteOf_mergeWordRight b4 hi _ _).trans (ite_congr rfl
        (fun c => dwordByte_read _ a (by omega : 4 - b4 ≤ 8) c) fun _ => rfl)⟩
    · obtain ⟨t, ht, ok⟩ := r.exec_load (exec_ldl _ _ _ h64)
      exact ⟨t, _, ht, ok, fun i hi => (dwordByte_mergeDwordLeft b8_lt hi _ _).trans (ite_congr rfl
        (fun _ => dwordByte_read _ a (by omega : b8 + 1 ≤ 8) (by omega)) fun _ => rfl)⟩
    · obtain ⟨t, ht, ok⟩ := r.exec_load (exec_ldr _ _ _ h64)
      exact ⟨t, _, ht, ok, fun i hi => (dwordByte_mergeDwordRight b8 i _ _).trans (ite_congr rfl
        (fun c => dwordByte_read _ a (by omega : 8 - b8 ≤ 8) c) fun _ => rfl)⟩

/-- Settles O31: each form of a store by the number whose low bytes its write takes. -/
theorem uncachedStores : Obligations.UncachedStores := by
  intro rt base offset s u a hc va v w b4 b8 refers
  have stores {i : Instr} {align lo n x : Nat} {d : Dword} (r : refers align lo)
      (hi : exec i s = (s.store align va lo n d).finish) (hx : d.toNat = x) :
      ∃ t, exec i s = .next t ∧ StoresOnly u t a n x :=
    hx ▸ r.exec_store hc hi
  have b4_lt : b4 < 4 := Nat.mod_lt _ (by decide)
  have b8_lt : b8 < 8 := Nat.mod_lt _ (by decide)
  exact ⟨fun r => stores r (exec_sb ..) rfl, fun r => stores r (exec_sh ..) rfl, fun r => stores r (exec_sw ..) rfl,
    fun r => stores r (exec_swl ..) (toNat_wordLeft b4_lt _), fun r => stores r (exec_swr ..) rfl,
    fun r h64 => stores r (exec_sd _ _ _ h64) rfl, fun r h64 => stores r (exec_sdl _ _ _ h64) (toNat_dwordLeft b8_lt _),
    fun r h64 => stores r (exec_sdr _ _ _ h64) rfl⟩

end Sys2Proof.Machine
end

section
/-! PROOFS. Computational instructions: each result as a function of the exact integers, and which results are written. -/
namespace Sys2Proof.Machine

/-! ### Results as exact integers -/

section
variable {w : Nat} (a b : BitVec w)

theorem add_eq_ofInt : a + b = BitVec.ofInt w (a.toInt + b.toInt) := by
  rw [BitVec.ofInt_add, BitVec.ofInt_toInt, BitVec.ofInt_toInt]

theorem sub_eq_ofInt : a - b = BitVec.ofInt w (a.toInt - b.toInt) := by
  rw [Int.sub_eq_add_neg, BitVec.ofInt_add, BitVec.ofInt_neg, BitVec.ofInt_toInt, BitVec.ofInt_toInt, BitVec.sub_eq_add_neg]

end

theorem toInt_sext16 (imm : Half) : (sext16 imm).toInt = imm.toInt := BitVec.toInt_signExtend_of_le (by decide)

theorem toInt_immWord (imm : Half) : (immWord imm).toInt = imm.toInt := by
  have word : immWord imm = imm.signExtend 32 := by
    rw [immWord, low32, sext16]
    ext i hi
    simp [BitVec.getElem_signExtend, show i < 64 by omega]
  rw [word, BitVec.toInt_signExtend_of_le (by decide)]

/-- LUI puts the immediate in the upper half of the word: it multiplies it by 2^16 (R269). -/
theorem toInt_immediate_append_zero (imm : Half) : (imm ++ (0 : Half) : BitVec 32).toInt = imm.toInt * 65536 := by
  rw [BitVec.toInt_append]
  simp [Int.mul_comm]

/-- A sum that fits in a word is its own low word, sign-extended (R261). -/
theorem sext32_ofInt {x : Int} (h : -2147483648 ≤ x ∧ x < 2147483648) : sext32 (BitVec.ofInt 32 x) = BitVec.ofInt 64 x :=
  congrArg (BitVec.ofInt 64) (BitVec.toInt_ofInt_eq_self (by decide) h.1 h.2)

theorem overflows_word (x : Int) : overflows 32 x = true ↔ ¬ (-2147483648 ≤ x ∧ x < 2147483648) := by
  rw [overflows, decide_eq_true_iff]
  omega

theorem overflows_dword (x : Int) :
    overflows 64 x = true ↔ ¬ (-9223372036854775808 ≤ x ∧ x < 9223372036854775808) := by
  rw [overflows, decide_eq_true_iff]
  omega

theorem boolDword_decide (p : Prop) [Decidable p] : boolDword (decide p) = if p then 1 else 0 := by
  simp [boolDword]

/-! ### Instructions that write a result -/

section
variable {i : Instr} {s : State} {r : Reg} {v v' : Dword} {x : Int}

/-- An instruction that only writes a result completes, and the result may be named in any way. -/
theorem exec_writesOnly (h : exec i s = s.writeResult r v) (hv : v = v') : ∃ t, exec i s = .next t ∧ WritesOnly s t r v' := by
  rw [h, hv]
  exact s.writeResult_spec r v'

/-- An instruction that traps on overflow writes a result that fits, and otherwise does nothing but trap (R261). -/
theorem exec_writesUnlessOverflow {w : Nat} {fits : Prop} (h : exec i s = s.writeUnlessOverflow (overflows w x) r v)
    (hf : overflows w x = true ↔ ¬ fits) (hv : fits → v = v') :
    (fits → ∃ t, exec i s = .next t ∧ WritesOnly s t r v') ∧ (¬ fits → exec i s = .next (s.takeException .ov)) := by
  refine ⟨fun f => exec_writesOnly ?_ (hv f), fun f => ?_⟩
  · have no : overflows w x = false := by
      rw [← Bool.not_eq_true, hf]
      exact not_not.mpr f
    rw [h, no, State.writeUnlessOverflow_false]
  · rw [h, hf.mpr f, State.writeUnlessOverflow_true]

end

/-- Settles O18: NOR by De Morgan, LUI by the value of the word it makes. -/
theorem logicalInstructions : Obligations.LogicalInstructions := by
  intro rd rs rt imm s
  refine ⟨exec_writesOnly rfl rfl, exec_writesOnly rfl rfl, exec_writesOnly rfl rfl, exec_writesOnly rfl BitVec.not_or,
    exec_writesOnly rfl rfl, exec_writesOnly rfl rfl, exec_writesOnly rfl rfl, exec_writesOnly rfl ?_⟩
  exact congrArg (BitVec.ofInt 64) (toInt_immediate_append_zero imm)

/-- Settles O19: the comparison decides the 1 or 0, and the sign-extended immediate of SLTI keeps its value. -/
theorem setOnLessThan : Obligations.SetOnLessThan := by
  intro rd rs rt imm s
  refine ⟨exec_writesOnly rfl (boolDword_decide _), exec_writesOnly rfl (boolDword_decide _), exec_writesOnly rfl ?_,
    exec_writesOnly rfl (boolDword_decide _)⟩
  rw [lessSigned, toInt_sext16, boolDword_decide]

/-! ### Word additions and subtractions -/

section
variable (rd rs rt : Reg) (imm : Half) (s : State)

theorem exec_addu : exec (.addu rd rs rt) s =
    s.writeResult rd (sext32 (BitVec.ofInt 32 ((s.word rs).toInt + (s.word rt).toInt))) := by
  rw [← add_eq_ofInt]; rfl

theorem exec_subu : exec (.subu rd rs rt) s =
    s.writeResult rd (sext32 (BitVec.ofInt 32 ((s.word rs).toInt - (s.word rt).toInt))) := by
  rw [← sub_eq_ofInt]; rfl

theorem exec_addiu : exec (.addiu rt rs imm) s =
    s.writeResult rt (sext32 (BitVec.ofInt 32 ((s.word rs).toInt + imm.toInt))) := by
  rw [← toInt_immWord, ← add_eq_ofInt]; rfl

theorem exec_add : exec (.add rd rs rt) s =
    let x := (s.word rs).toInt + (s.word rt).toInt
    s.writeUnlessOverflow (overflows 32 x) rd (sext32 (BitVec.ofInt 32 x)) := by
  dsimp only; rw [← add_eq_ofInt]; rfl

theorem exec_sub : exec (.sub rd rs rt) s =
    let x := (s.word rs).toInt - (s.word rt).toInt
    s.writeUnlessOverflow (overflows 32 x) rd (sext32 (BitVec.ofInt 32 x)) := by
  dsimp only; rw [← sub_eq_ofInt]; rfl

theorem exec_addi : exec (.addi rt rs imm) s =
    let x := (s.word rs).toInt + imm.toInt
    s.writeUnlessOverflow (overflows 32 x) rt (sext32 (BitVec.ofInt 32 x)) := by
  dsimp only; rw [← toInt_immWord, ← add_eq_ofInt]; rfl

end

/-- Settles O20: each result is the exact sum or difference of the low words, cut to a word and sign-extended. -/
theorem wordAddWraps : Obligations.WordAddWraps := fun rd rs rt imm s =>
  ⟨exec_writesOnly (exec_addu rd rs rt s) rfl, exec_writesOnly (exec_subu rd rs rt s) rfl,
    exec_writesOnly (exec_addiu rs rt imm s) rfl⟩

/-- Settles O21: the overflow condition is that the exact value does not fit, and a value that fits is its own word. -/
theorem wordAddTraps : Obligations.WordAddTraps := by
  intro rd rs rt imm s fits sum dif sumI
  obtain ⟨adds, addTraps⟩ := exec_writesUnlessOverflow (exec_add rd rs rt s) (overflows_word _) sext32_ofInt
  obtain ⟨subs, subTraps⟩ := exec_writesUnlessOverflow (exec_sub rd rs rt s) (overflows_word _) sext32_ofInt
  obtain ⟨addsI, addITraps⟩ := exec_writesUnlessOverflow (exec_addi rs rt imm s) (overflows_word _) sext32_ofInt
  exact ⟨adds, addTraps, subs, subTraps, addsI, addITraps⟩

/-! ### Doubleword additions and subtractions -/

section
variable {s : State} (h64 : s.ops64 = true) (rd rs rt : Reg) (imm : Half)
include h64

theorem exec_daddu : exec (.daddu rd rs rt) s =
    s.writeResult rd (BitVec.ofInt 64 ((s.getReg rs).toInt + (s.getReg rt).toInt)) := by
  rw [← add_eq_ofInt]; apply State.need64_of h64

theorem exec_dsubu : exec (.dsubu rd rs rt) s =
    s.writeResult rd (BitVec.ofInt 64 ((s.getReg rs).toInt - (s.getReg rt).toInt)) := by
  rw [← sub_eq_ofInt]; apply State.need64_of h64

theorem exec_daddiu : exec (.daddiu rt rs imm) s =
    s.writeResult rt (BitVec.ofInt 64 ((s.getReg rs).toInt + imm.toInt)) := by
  rw [← toInt_sext16, ← add_eq_ofInt]; apply State.need64_of h64

theorem exec_dadd : exec (.dadd rd rs rt) s =
    let x := (s.getReg rs).toInt + (s.getReg rt).toInt
    s.writeUnlessOverflow (overflows 64 x) rd (BitVec.ofInt 64 x) := by
  dsimp only; rw [← add_eq_ofInt]; apply State.need64_of h64

theorem exec_dsub : exec (.dsub rd rs rt) s =
    let x := (s.getReg rs).toInt - (s.getReg rt).toInt
    s.writeUnlessOverflow (overflows 64 x) rd (BitVec.ofInt 64 x) := by
  dsimp only; rw [← sub_eq_ofInt]; apply State.need64_of h64

theorem exec_daddi : exec (.daddi rt rs imm) s =
    let x := (s.getReg rs).toInt + imm.toInt
    s.writeUnlessOverflow (overflows 64 x) rt (BitVec.ofInt 64 x) := by
  dsimp only; rw [← toInt_sext16, ← add_eq_ofInt]; apply State.need64_of h64

end

/-- Settles O22: with 64-bit operations enabled each result is the exact sum or difference, under the overflow condition of 64 bits. -/
theorem dwordAdd : Obligations.DwordAdd := by
  intro rd rs rt imm s h64 fits sum dif sumI
  obtain ⟨adds, addTraps⟩ := exec_writesUnlessOverflow (exec_dadd h64 rd rs rt) (overflows_dword _) fun _ => rfl
  obtain ⟨subs, subTraps⟩ := exec_writesUnlessOverflow (exec_dsub h64 rd rs rt) (overflows_dword _) fun _ => rfl
  obtain ⟨addsI, addITraps⟩ := exec_writesUnlessOverflow (exec_daddi h64 rs rt imm) (overflows_dword _) fun _ => rfl
  exact ⟨exec_writesOnly (exec_daddu h64 rd rs rt) rfl, exec_writesOnly (exec_dsubu h64 rd rs rt) rfl,
    exec_writesOnly (exec_daddiu h64 rs rt imm) rfl, adds, addTraps, subs, subTraps, addsI, addITraps⟩

end Sys2Proof.Machine
end

section
/-! PROOFS. Shifts: each as a multiplication by a power of two or a division by one, and the amounts of the variable forms. -/
namespace Sys2Proof.Machine

/-! ### Shifts as multiplication and division -/

section
variable {w : Nat} (a : BitVec w) (n : Nat)

theorem shiftLeft_eq_ofNat : a <<< n = BitVec.ofNat w (a.toNat * 2 ^ n) := by
  rw [← Nat.shiftLeft_eq]
  exact BitVec.eq_of_toNat_eq (BitVec.toNat_shiftLeft ..)

theorem ushiftRight_eq_ofNat : a >>> n = BitVec.ofNat w (a.toNat / 2 ^ n) := by
  rw [← Nat.shiftRight_eq_div_pow, ← BitVec.toNat_ushiftRight, BitVec.ofNat_toNat, BitVec.setWidth_eq]

/-- The quotient of an arithmetic shift is rounded down, as `/` rounds by a positive divisor. -/
theorem toInt_sshiftRight_eq_div : (a.sshiftRight n).toInt = a.toInt / 2 ^ n := by
  rw [BitVec.toInt_sshiftRight, Int.shiftRight_eq_div_pow, Nat.cast_pow, Nat.cast_ofNat]

theorem sshiftRight_eq_ofInt : a.sshiftRight n = BitVec.ofInt w (a.toInt / 2 ^ n) := by
  rw [← toInt_sshiftRight_eq_div, BitVec.ofInt_toInt]

end

/-- The word of an arithmetic shift, sign-extended, is its quotient: a quotient of a word fits in a word (R304, R307). -/
theorem sext32_sshiftRight (a : Word) (n : Nat) : sext32 (a.sshiftRight n) = BitVec.ofInt 64 (a.toInt / 2 ^ n) :=
  congrArg (BitVec.ofInt 64) (toInt_sshiftRight_eq_div a n)

/-! ### The amounts of the variable forms -/

/-- Bits 4:0 of a register are its value modulo 32. -/
theorem State.amount5_eq_mod (s : State) (rs : Reg) : s.amount5 rs = (s.getReg rs).toNat % 32 := BitVec.extractLsb'_toNat ..

/-- Bits 5:0 of a register are its value modulo 64. -/
theorem State.amount6_eq_mod (s : State) (rs : Reg) : s.amount6 rs = (s.getReg rs).toNat % 64 := BitVec.extractLsb'_toNat ..

/-! ### Word shifts -/

/-- Settles O23: the immediate and the variable forms are the same three shifts of the low word, by their own amounts. -/
theorem wordShifts : Obligations.WordShifts := by
  intro rd rt rs sa s
  simp only [← State.amount5_eq_mod]
  have left (n : Nat) := congrArg sext32 (shiftLeft_eq_ofNat (s.word rt) n)
  have right (n : Nat) := congrArg sext32 (ushiftRight_eq_ofNat (s.word rt) n)
  have arith := sext32_sshiftRight (s.word rt)
  exact ⟨exec_writesOnly rfl (left _), exec_writesOnly rfl (right _), exec_writesOnly rfl (arith _),
    exec_writesOnly rfl (left _), exec_writesOnly rfl (right _), exec_writesOnly rfl (arith _)⟩

/-! ### Doubleword shifts -/

/-- Settles O24: with 64-bit operations enabled the nine forms are three shifts of the register, by `sa`, by 32 + `sa` or by the
amount in `rs`. -/
theorem dwordShifts : Obligations.DwordShifts := by
  intro rd rt rs sa s h64
  simp only [← State.amount6_eq_mod]
  have left := shiftLeft_eq_ofNat (s.getReg rt)
  have right := ushiftRight_eq_ofNat (s.getReg rt)
  have arith := sshiftRight_eq_ofInt (s.getReg rt)
  refine ⟨exec_writesOnly ?_ (left _), exec_writesOnly ?_ (right _), exec_writesOnly ?_ (arith _),
    exec_writesOnly ?_ (left _), exec_writesOnly ?_ (right _), exec_writesOnly ?_ (arith _),
    exec_writesOnly ?_ (left _), exec_writesOnly ?_ (right _), exec_writesOnly ?_ (arith _)⟩
  all_goals apply State.need64_of h64

end Sys2Proof.Machine
end

section
/-! PROOFS. Multiply, divide and accumulate: the halves of an exact product, quotients, and the accumulated sums with their clamp. -/
namespace Sys2Proof.Machine

/-! ### Fields of an exact value -/

section
variable {w k n : Nat} (h : k + n ≤ w)
include h

/-- The field at bit `k` of an exact value is its quotient by 2^`k`. -/
theorem extractLsb'_ofNat (x : Nat) : (BitVec.ofNat w x).extractLsb' k n = BitVec.ofNat n (x / 2 ^ k) := by
  apply BitVec.eq_of_getLsbD_eq
  intro i hi
  rw [BitVec.getLsbD_extractLsb', BitVec.getLsbD_ofNat, BitVec.getLsbD_ofNat, Nat.testBit_div_two_pow, Nat.add_comm i k]
  simp [hi, show k + i < w by omega]

/-- A negative value is the complement of a natural number, and so is its quotient, rounded down. -/
theorem extractLsb'_ofInt (x : Int) : (BitVec.ofInt w x).extractLsb' k n = BitVec.ofInt n (x / 2 ^ k) := by
  have pow : (2 ^ k : Int) = (2 ^ k : Nat) := by norm_cast
  rw [pow]
  cases x with
  | ofNat m => exact extractLsb'_ofNat h m
  | negSucc m =>
    have quotient : Int.negSucc m / (2 ^ k : Nat) = Int.negSucc (m / 2 ^ k) := by
      rw [← Int.shiftRight_eq_div_pow, ← Nat.shiftRight_eq_div_pow]; rfl
    rw [quotient, BitVec.ofInt_negSucc_eq_not_ofNat, BitVec.ofInt_negSucc_eq_not_ofNat, ← extractLsb'_ofNat h]
    ext i hi
    simp [show k + i < w by omega]

end

theorem low32_eq_extractLsb' (x : Dword) : low32 x = x.extractLsb' 0 32 := BitVec.setWidth_eq_extractLsb' (by decide)

/-! ### Instructions that write HI and LO -/

section
variable {i : Instr} {s : State}

/-- An instruction that only writes HI and LO completes, and the results may be named in any way. -/
theorem exec_writesHiLo {hi hi' lo lo' : Dword} (h : exec i s = s.writeHiLo hi lo) (hhi : hi = hi') (hlo : lo = lo') :
    ∃ t, exec i s = .next t ∧ WritesHiLo s t hi' lo' := by
  rw [h, hhi, hlo]
  exact s.writeHiLo_spec hi' lo'

/-- A division by zero completes with whatever HI and LO it draws (U33). -/
theorem exec_writesAnyHiLo (h : exec i s = s.divideByZero) :
    ∃ t, exec i s = .next t ∧ WritesResults s t 0 0 t.hi t.lo :=
  ⟨_, h, s.retire_writes 0 0 s.draw.1 s.draw.2.draw.1 s.draw.2.draw.2.free⟩

end

/-- Settles O27: each is one write of a general register, or one of HI and LO. -/
theorem hiLoMoves : Obligations.HiLoMoves := fun _ _ =>
  ⟨exec_writesOnly rfl rfl, exec_writesOnly rfl rfl, exec_writesHiLo rfl rfl rfl, exec_writesHiLo rfl rfl rfl⟩

/-! ### Multiplication -/

section
variable (rs rt : Reg) {s : State}

theorem exec_dmult (h64 : s.ops64 = true) : exec (.dmult rs rt) s =
    s.writeHiLoDwords (BitVec.ofInt 128 ((s.getReg rs).toInt * (s.getReg rt).toInt)) := by
  apply State.need64_of h64

theorem exec_dmultu (h64 : s.ops64 = true) : exec (.dmultu rs rt) s =
    s.writeHiLoDwords (BitVec.ofNat 128 ((s.getReg rs).toNat * (s.getReg rt).toNat)) := by
  apply State.need64_of h64

end

/-- Settles O25: HI and LO are two fields of the product, whatever its sign. -/
theorem multiplications : Obligations.Multiplications := by
  intro rs rt s p u q v
  refine ⟨exec_writesHiLo rfl (congrArg sext32 ?_) (congrArg sext32 ?_),
    exec_writesHiLo rfl (congrArg sext32 ?_) (congrArg sext32 ?_),
    fun h64 => exec_writesHiLo (exec_dmult rs rt h64) ?_ ?_, fun h64 => exec_writesHiLo (exec_dmultu rs rt h64) ?_ ?_⟩
  · exact extractLsb'_ofInt (by decide) p
  · rw [low32_eq_extractLsb', extractLsb'_ofInt (by decide), pow_zero, Int.ediv_one]
  · exact extractLsb'_ofNat (by decide) u
  · exact setWidth_ofNat_64 u
  · exact extractLsb'_ofInt (by decide) q
  · rw [extractLsb'_ofInt (by decide), pow_zero, Int.ediv_one]
  · exact extractLsb'_ofNat (by decide) v
  · rw [extractLsb'_ofNat (by decide), pow_zero, Nat.div_one]

/-! ### Division -/

section
variable (s : State) {n d : Int}

theorem State.divideWords_of_ne (h : d ≠ 0) : s.divideWords n d =
    s.writeHiLo (sext32 (BitVec.ofInt 32 (n.tmod d))) (sext32 (BitVec.ofInt 32 (n.tdiv d))) := if_neg h

theorem State.divideWords_of_eq (h : d = 0) : s.divideWords n d = s.divideByZero := if_pos h

theorem State.divideDwords_of_ne (h : d ≠ 0) : s.divideDwords n d =
    s.writeHiLo (BitVec.ofInt 64 (n.tmod d)) (BitVec.ofInt 64 (n.tdiv d)) := if_neg h

theorem State.divideDwords_of_eq (h : d = 0) : s.divideDwords n d = s.divideByZero := if_pos h

end

section
variable (rs rt : Reg) {s : State}

theorem exec_ddiv (h64 : s.ops64 = true) : exec (.ddiv rs rt) s = s.divideDwords (s.getReg rs).toInt (s.getReg rt).toInt := by
  apply State.need64_of h64

theorem exec_ddivu (h64 : s.ops64 = true) : exec (.ddivu rs rt) s = s.divideDwords (s.getReg rs).toNat (s.getReg rt).toNat := by
  apply State.need64_of h64

end

/-- A divisor is zero as an integer, signed or unsigned, exactly where its bits are. -/
theorem toInt_eq_zero_iff {w : Nat} {d : BitVec w} : d.toInt = 0 ↔ d = 0 := by
  rw [← BitVec.toInt_inj]; simp

theorem natCast_toNat_eq_zero_iff {w : Nat} {d : BitVec w} : (d.toNat : Int) = 0 ↔ d = 0 := by
  rw [Int.natCast_eq_zero, ← BitVec.toNat_inj]; simp

/-- Settles O26: by the divisor, zero or not; unsigned operands are divided as natural numbers, where truncation changes nothing. -/
theorem divisions : Obligations.Divisions := by
  intro rs rt s n d nu du
  refine ⟨fun h => exec_writesHiLo (s.divideWords_of_ne (toInt_eq_zero_iff.not.mpr h)) rfl rfl,
    fun h => exec_writesHiLo (s.divideWords_of_ne (natCast_toNat_eq_zero_iff.not.mpr h)) rfl rfl,
    fun h h64 => exec_writesHiLo ((exec_ddiv rs rt h64).trans (s.divideDwords_of_ne (toInt_eq_zero_iff.not.mpr h))) rfl rfl,
    fun h h64 => exec_writesHiLo ((exec_ddivu rs rt h64).trans (s.divideDwords_of_ne (natCast_toNat_eq_zero_iff.not.mpr h))) rfl rfl,
    fun h => ⟨?_, ?_⟩, fun h h64 => ⟨?_, ?_⟩⟩
  · exact exec_writesAnyHiLo (s.divideWords_of_eq (toInt_eq_zero_iff.mpr h))
  · exact exec_writesAnyHiLo (s.divideWords_of_eq (natCast_toNat_eq_zero_iff.mpr h))
  · exact exec_writesAnyHiLo ((exec_ddiv rs rt h64).trans (s.divideDwords_of_eq (toInt_eq_zero_iff.mpr h)))
  · exact exec_writesAnyHiLo ((exec_ddivu rs rt h64).trans (s.divideDwords_of_eq (natCast_toNat_eq_zero_iff.mpr h)))

/-! ### The accumulated sum -/

section
variable (x y : Word) (acc : Dword)

theorem accumulate_signed :
    accumulate false false x y acc = acc + x.signExtend 64 * y.signExtend 64 := by
  show BitVec.ofInt 64 (x.toInt * y.toInt + acc.toInt) = _
  rw [BitVec.ofInt_add, BitVec.ofInt_mul, BitVec.ofInt_toInt, BitVec.add_comm]
  rfl

theorem accumulate_unsigned :
    accumulate false true x y acc = acc + x.setWidth 64 * y.setWidth 64 := by
  show BitVec.ofInt 64 (x.toNat * y.toNat + acc.toInt) = _
  rw [BitVec.ofInt_add, BitVec.ofInt_mul, BitVec.ofInt_toInt, BitVec.add_comm, BitVec.ofInt_natCast, BitVec.ofInt_natCast,
    BitVec.ofNat_toNat, BitVec.ofNat_toNat]

/-- The signed sum is clamped to the range of a word (D28). -/
theorem accumulate_signed_saturated : accumulate true false x y acc =
    BitVec.ofInt 64 (max (-2147483648) (min 2147483647 (x.toInt * y.toInt + acc.toInt))) := by
  generalize ht : x.toInt * y.toInt + acc.toInt = t
  have clamps : accumulate true false x y acc = if 0x7FFF_FFFF < t then 0x0000_0000_7FFF_FFFF
    else if t < -0x8000_0000 then 0xFFFF_FFFF_8000_0000 else BitVec.ofInt 64 t := by rw [← ht]; rfl
  rw [clamps]
  split_ifs with above below
  · rw [min_eq_left (by omega)]; rfl
  · rw [min_eq_right (by omega), max_eq_left (by omega)]; rfl
  · rw [min_eq_right (by omega), max_eq_right (by omega)]

/-- An unsigned sum that does not fit in a word becomes all ones (D28). -/
theorem accumulate_unsigned_saturated : accumulate true true x y acc =
    if x.toNat * y.toNat + acc.toNat < 4294967296 then BitVec.ofNat 64 (x.toNat * y.toNat + acc.toNat)
    else BitVec.allOnes 64 := by
  generalize ht : x.toNat * y.toNat + acc.toNat = t
  have clamps : accumulate true true x y acc =
      if 0xFFFF_FFFF < (t : Int) then 0xFFFF_FFFF_FFFF_FFFF else BitVec.ofInt 64 t := by rw [← ht]; rfl
  rw [clamps]
  split_ifs with above fits fits
  · omega
  · rfl
  · rfl
  · omega

end

/-! ### MACC and DMACC -/

section
variable {s : State} {sat us : Bool} {rd rs rt : Reg} {t : Dword}

/-- An instruction that writes its result, HI and LO at once. -/
theorem State.writeResult_hiLo_spec (s : State) (r : Reg) (v hi lo : Dword) :
    ∃ u, State.writeResult { s with hi := hi, lo := lo } r v = .next u ∧ WritesResults s u r v hi lo :=
  ⟨_, rfl, s.retire_writes r v hi lo s.free⟩

/-- MACC writes the two words of the accumulated sum, and one of them to `rd` (R349). -/
theorem State.macc_spec (hi : Bool) (ht : accumulate sat us (s.word rs) (s.word rt) (s.hi.setWidth 32 ++ s.lo.setWidth 32) = t) :
    ∃ u, s.macc sat hi us rd rs rt = .next u ∧ WritesResults s u rd
      (if hi then (t.extractLsb' 32 32).signExtend 64 else (t.extractLsb' 0 32).signExtend 64)
      ((t.extractLsb' 32 32).signExtend 64) ((t.extractLsb' 0 32).signExtend 64) := by
  rw [← ht, ← low32_eq_extractLsb']
  exact s.writeResult_hiLo_spec ..

/-- DMACC writes the accumulated sum to LO alone, and HI or that sum to `rd` (R350). -/
theorem State.dmacc_spec (h64 : s.ops64 = true) (hi : Bool) (ht : accumulate sat us (s.word rs) (s.word rt) s.lo = t) :
    ∃ u, s.dmacc sat hi us rd rs rt = .next u ∧ WritesResults s u rd (if hi then s.hi else t) s.hi t := by
  rw [State.dmacc, State.need64_of h64, ht]
  exact s.writeResult_hiLo_spec ..

end

/-- Settles O28: the eight forms are two ways to take `rd` from each of the four sums. -/
theorem maccAccumulates : Obligations.MaccAccumulates := by
  refine ⟨?_, ?_⟩
  · intro rd rs rt s acc t0 u0 hi lo
    have signed := accumulate_signed (s.word rs) (s.word rt) acc
    have unsigned := accumulate_unsigned (s.word rs) (s.word rt) acc
    exact ⟨State.macc_spec false signed, State.macc_spec false unsigned, State.macc_spec true signed,
      State.macc_spec true unsigned⟩
  · intro rd rs rt s acc x y t0 u0 hi lo
    have signed := accumulate_signed_saturated (s.word rs) (s.word rt) acc
    have unsigned := accumulate_unsigned_saturated (s.word rs) (s.word rt) acc
    exact ⟨State.macc_spec false signed, State.macc_spec false unsigned, State.macc_spec true signed,
      State.macc_spec true unsigned⟩

/-- Settles O29: the same four sums from LO alone. -/
theorem dmaccAccumulates : Obligations.DmaccAccumulates := by
  intro rd rs rt s h64 t0 u0 x y t1 u1
  have signed := accumulate_signed (s.word rs) (s.word rt) s.lo
  have unsigned := accumulate_unsigned (s.word rs) (s.word rt) s.lo
  have signedSat := accumulate_signed_saturated (s.word rs) (s.word rt) s.lo
  have unsignedSat := accumulate_unsigned_saturated (s.word rs) (s.word rt) s.lo
  exact ⟨State.dmacc_spec h64 false signed, State.dmacc_spec h64 false unsigned, State.dmacc_spec h64 true signed,
    State.dmacc_spec h64 true unsigned, State.dmacc_spec h64 false signedSat, State.dmacc_spec h64 false unsignedSat,
    State.dmacc_spec h64 true signedSat, State.dmacc_spec h64 true unsignedSat⟩

end Sys2Proof.Machine
end

section
/-! PROOFS. Jumps and branches outside a delay slot: their targets, their conditions and their links. -/
namespace Sys2Proof.Machine

/-! ### Targets -/

/-- An offset in words counts in bytes four times as much (R362). -/
theorem signExtend_offset_append_zero (offset : Half) :
    (offset ++ (0 : BitVec 2) : BitVec 18).signExtend 64 = BitVec.ofInt 64 (4 * offset.toInt) := by
  rw [BitVec.signExtend, BitVec.toInt_append]
  simp

theorem branchTarget_eq (pc : Dword) (offset : Half) : branchTarget pc offset = pc + 4 + BitVec.ofInt 64 (4 * offset.toInt) :=
  congrArg (pc + 4 + ·) (signExtend_offset_append_zero offset)

/-- The target of J and JAL as a number: the block of the delay slot, and the word that the instruction names (R370). -/
theorem jumpTarget_eq (pc : Dword) (target : BitVec 26) :
    jumpTarget pc target = BitVec.ofNat 64 ((pc + 4).toNat / 2 ^ 28 * 2 ^ 28 + 4 * target.toNat) := by
  apply BitVec.eq_of_toNat_eq
  have ht := target.isLt
  have hp := (pc + 4).isLt
  rw [jumpTarget, BitVec.toNat_append, BitVec.toNat_append, BitVec.toNat_ofNat, BitVec.extractLsb'_toNat,
    Nat.shiftRight_eq_div_pow, ← Nat.shiftLeft_add_eq_or_of_lt ht, ← Nat.shiftLeft_add_eq_or_of_lt (by decide),
    Nat.shiftLeft_eq, Nat.shiftLeft_eq]
  simp only [BitVec.ofNat_eq_ofNat, BitVec.toNat_ofNat] at *
  omega

/-! ### Conditions -/

theorem isNegative_eq (a : Dword) : isNegative a = decide (a.toInt < 0) := by
  rw [← BitVec.msb_eq_toInt]; rfl

theorem not_isNegative_eq (a : Dword) : (!isNegative a) = decide (0 ≤ a.toInt) := by
  rw [isNegative_eq, ← decide_not]
  exact decide_eq_decide.mpr Int.not_lt

theorem State.notPositive_eq (s : State) (rs : Reg) : s.notPositive rs = decide ((s.getReg rs).toInt ≤ 0) := by
  have zero : (s.getReg rs == 0) = decide ((s.getReg rs).toInt = 0) := decide_eq_decide.mpr toInt_eq_zero_iff.symm
  rw [State.notPositive, isNegative_eq, zero, ← Bool.decide_or]
  exact decide_eq_decide.mpr Int.le_iff_lt_or_eq.symm

theorem State.not_notPositive_eq (s : State) (rs : Reg) : (!s.notPositive rs) = decide (0 < (s.getReg rs).toInt) := by
  rw [State.notPositive_eq, ← decide_not]
  exact decide_eq_decide.mpr Int.not_le

/-! ### Jumps and branches outside a delay slot -/

theorem Branches.of_jumpEnd {s t : State} {taken likely : Bool} {target : Dword}
    (h : Branches s t (jumpEnd s taken likely target).1 (jumpEnd s taken likely target).2) :
    if taken then Branches s t (s.pc + 4) (.delay (some target))
    else if likely then Branches s t (s.pc + 8) .normal else Branches s t (s.pc + 4) (.delay none) := by
  cases taken <;> cases likely <;> exact h

section
variable {s : State} (h : s.slot = .normal)
include h

/-- A jump or branch that writes no register is one that writes register 0. -/
theorem State.jump_branchesTo (taken likely : Bool) (target : Dword) :
    ∃ t, s.jump taken likely target = .next t ∧ BranchesTo s t taken likely target := by
  obtain ⟨t, ht, registers, branches⟩ := State.jump_spec h 0 0 taken likely target
  refine ⟨t, ht, fun q => ?_, branches.of_jumpEnd⟩
  rw [registers, ← State.getReg_setReg]
  exact congrArg (·.getReg q) (s.setReg_zero 0)

/-- A jump that links writes `r`, and goes to a target that is not read from the link. -/
theorem State.jump_links (r : Reg) (target : Dword) :
    ∃ t, (s.setReg r s.linkAddress).jump true false target = .next t ∧
      (∀ q, t.getReg q = if q = 0 then 0 else if q = r then s.pc + 8 else s.getReg q) ∧
      Branches s t (s.pc + 4) (.delay (some target)) :=
  State.jump_spec h r s.linkAddress true false target

section
variable {i : Instr} {c taken likely : Bool} {offset : Half}

/-- A conditional branch goes where its offset says, and its condition may be named in any way. -/
theorem exec_branchesTo (hi : exec i s = s.branch c likely offset) (hc : c = taken) :
    ∃ t, exec i s = .next t ∧ BranchesTo s t taken likely (s.pc + 4 + BitVec.ofInt 64 (4 * offset.toInt)) := by
  rw [hi, hc, State.branch, branchTarget_eq]
  exact State.jump_branchesTo h taken likely _

/-- A branch that links writes r31 whether or not it is taken. -/
theorem exec_linksAndBranches (hi : exec i s = s.link.branch c likely offset) (hc : c = taken) :
    ∃ t, exec i s = .next t ∧ LinksR31 s t ∧
      if taken then Branches s t (s.pc + 4) (.delay (some (s.pc + 4 + BitVec.ofInt 64 (4 * offset.toInt))))
      else if likely then Branches s t (s.pc + 8) .normal else Branches s t (s.pc + 4) (.delay none) := by
  obtain ⟨t, ht, registers, branches⟩ := State.jump_spec h 31 s.linkAddress taken likely (branchTarget s.pc offset)
  refine ⟨t, ?_, registers, ?_⟩
  · rw [hi, hc, State.branch, State.link, State.setReg_pc, ht]
  · rw [← branchTarget_eq]
    exact branches.of_jumpEnd

end

/-- JALR with rd = rs completes with whatever link and target it draws (U36). -/
theorem exec_jalr_same (rs : Reg) :
    ∃ t x, exec (.jalr rs rs) s = .next t ∧ (∀ q, q ≠ rs → t.getReg q = s.getReg q) ∧ t.getReg 0 = 0 ∧
      t.pc = s.pc + 4 ∧ t.slot = .delay (some x) ∧ t.cp0 = { s.cp0 with random := s.cp0.nextRandom } ∧
      t.hi = s.hi ∧ t.lo = s.lo ∧ SameMemory s t ∧ SameOutsideCore s t := by
  obtain ⟨t, ht, registers, branches⟩ :=
    State.jump_spec (s := s.draw.2.draw.2) h rs s.draw.1 true false s.draw.2.draw.1
  have drawn : exec (.jalr rs rs) s = .next t := (if_pos rfl).trans ht
  refine ⟨t, s.draw.2.draw.1, drawn, fun q hq => ?_, registers 0, branches.pc, branches.slot, branches.cp0, branches.hi,
    branches.lo, branches.memory, branches.rest⟩
  rw [registers, ← State.getReg_setReg]
  exact State.getReg_setReg_ne _ hq _

end

/-- Settles O41: each is one jump, after the write of its link register where it has one. -/
theorem jumps : Obligations.Jumps := by
  intro target rd rs s h dest
  have toDest : jumpTarget s.pc target = dest := jumpTarget_eq s.pc target
  refine ⟨?_, ?_, State.jump_branchesTo h true false _, fun hne => ?_, exec_jalr_same h rs⟩
  · rw [← toDest]
    exact State.jump_branchesTo h true false _
  · rw [← toDest]
    exact State.jump_links h 31 _
  · have linked : exec (.jalr rd rs) s = (s.setReg rd s.linkAddress).jump true false (s.getReg rs) := if_neg hne
    rw [linked]
    exact State.jump_links h rd _

/-- Settles O42: each is one branch on its condition, and those of coprocessor 0 also pass the usability test. -/
theorem conditionalBranches : Obligations.ConditionalBranches := by
  refine ⟨fun rs rt offset s h => ?_, fun offset s h usable => ?_⟩
  · have negative := isNegative_eq (s.getReg rs)
    have notNegative := not_isNegative_eq (s.getReg rs)
    have notPositive := s.notPositive_eq rs
    have positive := s.not_notPositive_eq rs
    exact ⟨exec_branchesTo h rfl rfl, exec_branchesTo h rfl rfl, exec_branchesTo h rfl notPositive,
      exec_branchesTo h rfl positive, exec_branchesTo h rfl negative, exec_branchesTo h rfl notNegative,
      exec_branchesTo h rfl rfl, exec_branchesTo h rfl rfl, exec_branchesTo h rfl notPositive,
      exec_branchesTo h rfl positive, exec_branchesTo h rfl negative, exec_branchesTo h rfl notNegative⟩
  · refine ⟨exec_branchesTo h ?_ rfl, exec_branchesTo h ?_ rfl, exec_branchesTo h ?_ rfl, exec_branchesTo h ?_ rfl⟩
    all_goals apply State.needCop0_of usable

/-- Settles O43: the four forms are two conditions, each with and without the nullification of the slot. -/
theorem linkingBranches : Obligations.LinkingBranches := by
  intro rs offset s h dest neg goes
  have negative : isNegative (s.getReg rs) = neg := isNegative_eq (s.getReg rs)
  have notNegative : (!isNegative (s.getReg rs)) = !neg := congrArg (!·) negative
  exact ⟨exec_linksAndBranches h rfl negative, exec_linksAndBranches h rfl notNegative,
    exec_linksAndBranches h rfl negative, exec_linksAndBranches h rfl notNegative⟩

end Sys2Proof.Machine
end

section
/-! PROOFS. Delay slots: every instruction in one completes the branch or raises its exception, and a jump there stops. -/
namespace Sys2Proof.Machine

/-! ### The place of an instruction -/

/-- `t` stands at the instruction of `s`: the program counter and the slot are the same. -/
structure State.Stays (s t : State) : Prop where
  pc : t.pc = s.pc
  slot : t.slot = s.slot

section
variable {s t u : State}

theorem State.Stays.refl (s : State) : s.Stays s := ⟨rfl, rfl⟩

theorem State.Stays.trans (h : s.Stays t) (k : t.Stays u) : s.Stays u := ⟨k.pc.trans h.pc, k.slot.trans h.slot⟩

theorem State.Evolves.stays (h : s.Evolves t) : s.Stays t := ⟨h.pc, h.slot⟩

theorem State.stays_setReg (s : State) (r : Reg) (v : Dword) : s.Stays (s.setReg r v) := ⟨s.setReg_pc r v, s.setReg_slot r v⟩

theorem State.Stays.setReg (h : s.Stays t) (r : Reg) (v : Dword) : s.Stays (t.setReg r v) := h.trans (t.stays_setReg r v)

theorem State.stays_hilo (s : State) (hi lo : Dword) : s.Stays { s with hi := hi, lo := lo } := ⟨rfl, rfl⟩

theorem State.stays_draw (s : State) : s.Stays s.draw.2 := ⟨rfl, rfl⟩

theorem State.Stays.nextPc (h : s.Stays t) : t.nextPc = s.nextPc := by
  unfold State.nextPc
  rw [h.pc, h.slot]

theorem State.nextPc_of_delay {x : Option Dword} (h : s.slot = .delay x) : s.nextPc = x.getD (s.pc + 4) := by
  unfold State.nextPc
  rw [h]
  cases x <;> rfl

theorem State.stays_probeResult (s : State) : s.Stays s.probeResult := by
  unfold State.probeResult
  split
  · exact ⟨rfl, rfl⟩
  · dsimp only
    split <;> exact ⟨rfl, rfl⟩

theorem State.cacheOp_stays (s : State) (op : BitVec 5) (va : Dword) (pa : PAddr) : (s.cacheOp op va pa).Holds s.Stays := by
  cases h : loadsTag op with
  | false => exact (s.cacheOp_evolves h va pa).mono fun _ => State.Evolves.stays
  | true =>
    rw [s.cacheOp_loadTag h]
    exact .ok ⟨rfl, rfl⟩

theorem State.cacheEffect_stays (s : State) (op : BitVec 5) (va : Dword) : (s.cacheEffect op va).Holds s.Stays := by
  unfold State.cacheEffect
  split
  · exact .raise (.refl s)
  · refine ((s.translate_evolves _ _).mono fun _ => State.Evolves.stays).bind fun t u hu => ?_
    split
    · exact (u.cacheOp_stays op va _).mono fun _ => hu.trans
    · exact .ok hu

end

/-! ### How an instruction ends that is no jump -/

/-- An instruction that is no jump has completed, so that execution goes on behind it or at the pending target; or its exception has
been taken, with the slot as it was. -/
inductive State.Ends (s : State) : State → Prop
  | completed {t : State} (pc : t.pc = s.nextPc) (slot : t.slot = .normal) : s.Ends t
  | raised {u : State} (h : s.Stays u) (e : Exc) : s.Ends (u.takeException e)

section
variable {s t : State}

theorem OutHolds.of_fault {p : State → Prop} {o : Out} {f : Fault} (h : o = .fault f) : OutHolds p o := h ▸ .fault f

theorem State.Stays.advance_ends (h : s.Stays t) : OutHolds s.Ends (.next t.advance) := .next (.completed h.nextPc rfl)

theorem State.Stays.retire_ends (h : s.Stays t) : OutHolds s.Ends (.next t.retire) := .next (.completed h.nextPc rfl)

theorem State.Stays.trap_ends (h : s.Stays t) (e : Exc) : OutHolds s.Ends (t.trap e) := .next (.raised h e)

theorem State.Stays.writeResult_ends (h : s.Stays t) (r : Reg) (v : Dword) : OutHolds s.Ends (t.writeResult r v) :=
  (h.setReg r v).retire_ends

/-- An effect at the instruction, followed by its completion or its exception. -/
theorem Res.Holds.finish_ends {r : Res Unit} (h : r.Holds s.Stays) : OutHolds s.Ends r.finish := by
  cases h with
  | ok h => exact h.retire_ends
  | raise h => exact h.trap_ends _
  | fault => exact .fault _

variable (s)

theorem State.trap_ends (e : Exc) : OutHolds s.Ends (s.trap e) := (State.Stays.refl s).trap_ends e

theorem State.need64_ends {k : State → Out} (h : OutHolds s.Ends (k s)) : OutHolds s.Ends (s.need64 k) := by
  unfold State.need64
  split
  · exact h
  · exact s.trap_ends _

theorem State.needCop0_ends {k : State → Out} (h : OutHolds s.Ends (k s)) : OutHolds s.Ends (s.needCop0 k) := by
  unfold State.needCop0
  split
  · exact h
  · exact s.trap_ends _

theorem State.writeResult_ends (r : Reg) (v : Dword) : OutHolds s.Ends (s.writeResult r v) :=
  (State.Stays.refl s).writeResult_ends r v

theorem State.writeUnlessOverflow_ends (c : Bool) (r : Reg) (v : Dword) : OutHolds s.Ends (s.writeUnlessOverflow c r v) := by
  unfold State.writeUnlessOverflow
  split
  · exact s.trap_ends _
  · exact s.writeResult_ends r v

theorem State.writeHiLo_ends (hi lo : Dword) : OutHolds s.Ends (s.writeHiLo hi lo) := (s.stays_hilo hi lo).retire_ends

theorem State.divideByZero_ends : OutHolds s.Ends s.divideByZero :=
  ((s.stays_draw.trans (State.stays_draw _)).trans (State.stays_hilo _ _ _)).retire_ends

theorem State.divideWords_ends (n d : Int) : OutHolds s.Ends (s.divideWords n d) := by
  unfold State.divideWords
  split
  · exact s.divideByZero_ends
  · exact s.writeHiLo_ends _ _

theorem State.divideDwords_ends (n d : Int) : OutHolds s.Ends (s.divideDwords n d) := by
  unfold State.divideDwords
  split
  · exact s.divideByZero_ends
  · exact s.writeHiLo_ends _ _

theorem State.macc_ends (sat hi us : Bool) (rd rs rt : Reg) : OutHolds s.Ends (s.macc sat hi us rd rs rt) :=
  (s.stays_hilo _ _).writeResult_ends rd _

theorem State.dmacc_ends (sat hi us : Bool) (rd rs rt : Reg) : OutHolds s.Ends (s.dmacc sat hi us rd rs rt) :=
  s.need64_ends ((s.stays_hilo s.hi _).writeResult_ends rd _)

theorem State.trapIf_ends (c : Bool) : OutHolds s.Ends (s.trapIf c) := by
  unfold State.trapIf
  split
  · exact s.trap_ends _
  · exact (State.Stays.refl s).retire_ends

theorem State.load_ends (rt : Reg) (f : Dword → Dword) (align : Nat) (va : Dword) (lo n : Nat) :
    OutHolds s.Ends (State.loadInto rt f (s.load align va lo n)) :=
  Res.Holds.finish_ends (((s.load_evolves align va lo n).mono fun _ => State.Evolves.stays).bind fun d _ h =>
    .ok (h.setReg rt (f d)))

theorem State.store_ends (align : Nat) (va : Dword) (lo n : Nat) (v : Dword) :
    OutHolds s.Ends (s.store align va lo n v).finish :=
  ((s.store_evolves align va lo n v).mono fun _ => State.Evolves.stays).finish_ends

theorem State.writeCp0_ends (n : Reg) (v : Dword) : OutHolds s.Ends (s.writeCp0 n v) := by
  unfold State.writeCp0
  split
  · exact State.Stays.advance_ends ⟨rfl, rfl⟩
  · exact State.Stays.retire_ends ⟨rfl, rfl⟩

theorem execDmfc0_ends (rt rd : Reg) : OutHolds s.Ends (execDmfc0 rt rd s) := by
  refine s.needCop0_ends (s.need64_ends ?_)
  split
  · exact s.writeResult_ends _ _
  · exact s.stays_draw.writeResult_ends _ _

theorem State.writeTlb_ends (i : BitVec 5) : OutHolds s.Ends (s.writeTlb i) := by
  unfold State.writeTlb
  split
  · exact State.Stays.retire_ends ⟨rfl, rfl⟩
  · exact .fault _

theorem State.stopPipeline_ends (m : PowerMode) : OutHolds s.Ends (s.stopPipeline m) :=
  .next (.completed s.lands_awaitSysAd.evolves.stays.nextPc rfl)

end

/-! ### Instructions in a delay slot -/

section
variable {s : State} {x : Option Dword} (h : s.slot = .delay x)
include h

/-- A jump in a delay slot stops, also behind the write of its link register (U32). -/
theorem State.Stays.jump_stops {t : State} (k : s.Stays t) (taken likely : Bool) (target : Dword) :
    t.jump taken likely target = .fault .jumpInDelaySlot := State.jump_slot (k.slot.trans h) taken likely target

theorem execJalr_stops (rd rs : Reg) : execJalr rd rs s = .fault .jumpInDelaySlot := by
  unfold execJalr
  split
  · exact State.Stays.jump_stops h ((s.stays_draw.trans (State.stays_draw _)).setReg rd _) _ _ _
  · exact State.Stays.jump_stops h (s.stays_setReg rd _) _ _ _

/-- The jumps and branches of the main processor in a delay slot (R361). -/
theorem exec_jump_stops (rd rs rt : Reg) (offset : Half) (target : BitVec 26) :
    ∀ i ∈ [Instr.j target, .jal target, .jr rs, .jalr rd rs, .beq rs rt offset, .bne rs rt offset, .blez rs offset,
      .bgtz rs offset, .beql rs rt offset, .bnel rs rt offset, .blezl rs offset, .bgtzl rs offset, .bltz rs offset,
      .bgez rs offset, .bltzl rs offset, .bgezl rs offset, .bltzal rs offset, .bgezal rs offset, .bltzall rs offset,
      .bgezall rs offset], exec i s = .fault .jumpInDelaySlot := by
  have plain := State.Stays.jump_stops h (.refl s)
  have linked := State.Stays.jump_stops h (s.stays_setReg 31 s.linkAddress)
  simp only [List.forall_mem_cons]
  exact ⟨plain .., linked .., plain .., execJalr_stops h rd rs, plain .., plain .., plain .., plain .., plain .., plain ..,
    plain .., plain .., plain .., plain .., plain .., plain .., linked .., linked .., linked .., linked .., by simp⟩

/-- The branches of coprocessor 0 and ERET in a delay slot, where CP0 is usable (R361). -/
theorem exec_cop0_jump_stops (usable : s.cop0Usable = true) (offset : Half) :
    ∀ i ∈ [Instr.bc0f offset, .bc0t offset, .bc0fl offset, .bc0tl offset, .eret], exec i s = .fault .jumpInDelaySlot := by
  have branches (taken : State → Bool) (likely : Bool) :
      (s.needCop0 fun s => s.branch (taken s) likely offset) = .fault .jumpInDelaySlot :=
    (State.needCop0_of usable _).trans (State.Stays.jump_stops h (.refl s) _ _ _)
  have returns : execEret s = .fault .jumpInDelaySlot := by
    rw [execEret, State.needCop0_of usable, h]
  simp only [List.forall_mem_cons]
  exact ⟨branches (fun s => !s.ch) false, branches State.ch false, branches (fun s => !s.ch) true, branches State.ch true,
    returns, by simp⟩

theorem execEret_ends : OutHolds s.Ends (execEret s) := by
  apply s.needCop0_ends
  rw [h]
  exact .fault _

/-- Every instruction in a delay slot, by the operation that its meaning ends in. -/
theorem exec_ends (i : Instr) : OutHolds s.Ends (exec i s) := by
  have plain (taken likely : Bool) (target : Dword) : OutHolds s.Ends (s.jump taken likely target) :=
    .of_fault (State.Stays.jump_stops h (.refl s) taken likely target)
  have linked (taken likely : Bool) (target : Dword) : OutHolds s.Ends (s.link.jump taken likely target) :=
    .of_fault (State.Stays.jump_stops h (s.stays_setReg 31 _) taken likely target)
  cases i with
  | lb | lbu | lh | lhu | lw | lwl | lwr => exact s.load_ends _ _ _ _ _ _
  | lwu | ld | ldl | ldr =>
    apply s.need64_ends
    exact s.load_ends _ _ _ _ _ _
  | sb | sh | sw | swl | swr => exact s.store_ends _ _ _ _ _
  | sd | sdl | sdr =>
    apply s.need64_ends
    exact s.store_ends _ _ _ _ _
  | addi | add | sub => exact s.writeUnlessOverflow_ends _ _ _
  | daddi | dadd | dsub =>
    apply s.need64_ends
    exact s.writeUnlessOverflow_ends _ _ _
  | addiu | slti | sltiu | andi | ori | xori | lui | addu | subu | and | or | xor | nor | slt | sltu => exact s.writeResult_ends _ _
  | sll | srl | sra | sllv | srlv | srav | mfhi | mflo => exact s.writeResult_ends _ _
  | daddiu | daddu | dsubu | dsll | dsrl | dsra | dsllv | dsrlv | dsrav | dsll32 | dsrl32 | dsra32 =>
    apply s.need64_ends
    exact s.writeResult_ends _ _
  | mult | multu | mthi | mtlo => exact s.writeHiLo_ends _ _
  | dmult | dmultu =>
    apply s.need64_ends
    exact s.writeHiLo_ends _ _
  | div | divu => exact s.divideWords_ends _ _
  | ddiv | ddivu =>
    apply s.need64_ends
    exact s.divideDwords_ends _ _
  | macc | maccu | macchi | macchiu | maccs | maccus | macchis | macchius => exact s.macc_ends _ _ _ _ _ _
  | dmacc | dmaccu | dmacchi | dmacchiu | dmaccs | dmaccus | dmacchis | dmacchius => exact s.dmacc_ends _ _ _ _ _ _
  | j | jr | beq | bne | blez | bgtz | beql | bnel | blezl | bgtzl | bltz | bgez | bltzl | bgezl => exact plain _ _ _
  | jal | bltzal | bgezal | bltzall | bgezall => exact linked _ _ _
  | jalr rd rs => exact .of_fault (execJalr_stops h rd rs)
  | bc0f | bc0t | bc0fl | bc0tl =>
    apply s.needCop0_ends
    exact plain _ _ _
  | sync => exact (State.Stays.refl s).retire_ends
  | tge | tgeu | tlt | tltu | teq | tne | tgei | tgeiu | tlti | tltiu | teqi | tnei => exact s.trapIf_ends _
  | mfc0 =>
    apply s.needCop0_ends
    exact s.writeResult_ends _ _
  | dmfc0 rt rd => exact execDmfc0_ends s rt rd
  | mtc0 =>
    apply s.needCop0_ends
    exact s.writeCp0_ends _ _
  | dmtc0 =>
    apply s.needCop0_ends
    apply s.need64_ends
    exact s.writeCp0_ends _ _
  | tlbr =>
    apply s.needCop0_ends
    exact State.Stays.retire_ends ⟨rfl, rfl⟩
  | tlbwi | tlbwr =>
    apply s.needCop0_ends
    exact s.writeTlb_ends _
  | tlbp =>
    apply s.needCop0_ends
    exact s.stays_probeResult.retire_ends
  | eret => exact execEret_ends h
  | standby | suspend | hibernate =>
    apply s.needCop0_ends
    exact s.stopPipeline_ends _
  | cache =>
    apply s.needCop0_ends
    exact (s.cacheEffect_stays _ _).finish_ends
  | jalx | syscall | brk | ll | lld | sc | scd => exact s.trap_ends _
  | cop1 | lwc1 | ldc1 | swc1 | sdc1 | cop2 | lwc2 | ldc2 | swc2 | sdc2 => exact s.trap_ends _

end

/-- Settles O44: by how every instruction in a slot ends; ADDU is one that always completes. -/
theorem delaySlots : Obligations.DelaySlots := by
  intro s x h
  have target := State.nextPc_of_delay h
  refine ⟨fun i t ht => ?_, fun rd rs rt offset dest => ⟨?_, exec_jump_stops h rd rs rt offset dest,
    fun usable => exec_cop0_jump_stops h usable offset⟩⟩
  · cases exec_ends h i t ht with
    | completed pc slot => exact .inl ⟨pc.trans target, slot⟩
    | raised stays e => exact .inr ⟨_, e, rfl, stays.pc, stays.slot⟩
  · obtain ⟨t, ht, writes, _⟩ := exec_writesOnly (exec_addu rd rs rt s) rfl
    exact ⟨t, ht, writes.retired.pc.trans target, writes.retired.slot⟩

end Sys2Proof.Machine
end

section
/-! PROOFS. SYSCALL, BREAK, SYNC and the traps: the conditions of the traps as comparisons of integers, and what each does. -/
namespace Sys2Proof.Machine

/-! ### Conditions -/

theorem lessSigned_iff (a b : Dword) : lessSigned a b = true ↔ a.toInt < b.toInt := decide_eq_true_iff

theorem not_lessSigned_iff (a b : Dword) : (!lessSigned a b) = true ↔ b.toInt ≤ a.toInt := by
  rw [Bool.not_eq_true', ← Bool.not_eq_true, lessSigned_iff, Int.not_lt]

theorem lessUnsigned_iff (a b : Dword) : lessUnsigned a b = true ↔ a.toNat < b.toNat := decide_eq_true_iff

theorem not_lessUnsigned_iff (a b : Dword) : (!lessUnsigned a b) = true ↔ b.toNat ≤ a.toNat := by
  rw [Bool.not_eq_true', ← Bool.not_eq_true, lessUnsigned_iff, Nat.not_lt]

/-! ### Traps -/

/-- A trap instruction traps where its condition holds and otherwise only completes, and the condition may be named in any way
(R405). -/
theorem exec_trapsIf {i : Instr} {s : State} {c : Bool} {p : Prop} (h : exec i s = s.trapIf c) (hc : c = true ↔ p) :
    (p → exec i s = .next (s.takeException .tr)) ∧ (¬ p → ∃ t, exec i s = .next t ∧ WritesNothing s t) := by
  obtain ⟨traps, completes⟩ := s.trapIf_spec c
  rw [h, ← hc, Bool.not_eq_true]
  exact ⟨traps, completes⟩

/-- Settles O46: six comparisons, each with a register and with an immediate; TGEI and TLTI compare the value of theirs as it is. -/
theorem trapInstructions : Obligations.TrapInstructions := by
  intro rs rt code imm s a b c traps
  have notLessImm : (!lessSigned a (sext16 imm)) = true ↔ imm.toInt ≤ a.toInt := by
    rw [not_lessSigned_iff, toInt_sext16]
  have lessImm : lessSigned a (sext16 imm) = true ↔ a.toInt < imm.toInt := by
    rw [lessSigned_iff, toInt_sext16]
  exact ⟨exec_trapsIf rfl (not_lessSigned_iff a b), exec_trapsIf rfl (not_lessUnsigned_iff a b),
    exec_trapsIf rfl (lessSigned_iff a b), exec_trapsIf rfl (lessUnsigned_iff a b),
    exec_trapsIf rfl beq_iff_eq, exec_trapsIf rfl bne_iff_ne,
    exec_trapsIf rfl notLessImm, exec_trapsIf rfl (not_lessUnsigned_iff a c),
    exec_trapsIf rfl lessImm, exec_trapsIf rfl (lessUnsigned_iff a c),
    exec_trapsIf rfl beq_iff_eq, exec_trapsIf rfl bne_iff_ne⟩

/-! ### SYSCALL, BREAK and SYNC -/

theorem exec_syscall (code : BitVec 20) (s : State) : exec (.syscall code) s = .next (s.takeException .sys) := rfl

theorem exec_brk (code : BitVec 20) (s : State) : exec (.brk code) s = .next (s.takeException .bp) := rfl

theorem exec_sync (s : State) : exec .sync s = .next s.retire := rfl

/-- Settles O45: the code field is not read, and SYNC only completes. -/
theorem systemCallAndBreakpoint : Obligations.SystemCallAndBreakpoint := fun code s =>
  ⟨exec_syscall code s, exec_brk code s, s.retire, exec_sync s, s.retire_writesNothing⟩

end Sys2Proof.Machine
end

section
/-! PROOFS. The operations of CACHE that use the bus: write-backs of dirty lines, and Fill. -/
namespace Sys2Proof.Machine

variable {s : State} {va : Dword} {pa : PAddr}

/-! ### Write-backs leave the caches alone -/

theorem State.busWriteLine_dcache (s : State) (pa : PAddr) (v : BitVec 128) : (s.busWriteLine pa v).dcache = s.dcache := by
  unfold State.busWriteLine
  dsimp only
  split
  · exact (s.lands_post (.memory (s.mem.cells (foldAddress pa) 16))).dcache
  · exact (s.lands_post _).dcache

theorem State.writeBackDirty_dLine (s : State) (i j : Nat) : (s.writeBackDirty i).dLine j = s.dLine j := by
  unfold State.writeBackDirty
  dsimp only
  split
  · exact State.dLine_congr (s.busWriteLine_dcache _ _) j
  · rfl

/-! ### Operations that write a data line back -/

/-- Index_Write_Back_Invalidate (R443). -/
theorem State.indexWriteBackInvalidateD_eq (s : State) (va : Dword) : s.indexWriteBackInvalidateD va =
    .ok () ((s.writeBackDirty (dIndex va)).setDLine (dIndex va) { s.dLine (dIndex va) with v := false, w := false }) := by
  rw [State.indexWriteBackInvalidateD, s.writeBackDirty_dLine]

/-- Create_Dirty_Exclusive on a miss (R446). -/
theorem State.createDirtyExclusive_miss (h : (s.dLine (dIndex va)).hit pa = false) : s.createDirtyExclusive va pa =
    .ok () ((s.writeBackDirty (dIndex va)).setDLine (dIndex va)
      { s.dLine (dIndex va) with ptag := tagOf pa, v := true, w := true }) := by
  have miss : (if (s.dLine (dIndex va)).hit pa then s else s.writeBackDirty (dIndex va)) = s.writeBackDirty (dIndex va) :=
    if_neg (Bool.not_eq_true _ ▸ h)
  rw [State.createDirtyExclusive, miss, s.writeBackDirty_dLine]

/-- Hit_Write_Back_Invalidate on a hit (R448). -/
theorem State.hitWriteBackInvalidateD_hit (h : (s.dLine (dIndex va)).hit pa = true) : s.hitWriteBackInvalidateD va pa =
    .ok () ((s.writeBackDirty (dIndex va)).setDLine (dIndex va) { s.dLine (dIndex va) with v := false, w := false }) := by
  rw [State.hitWriteBackInvalidateD, if_pos h, State.indexWriteBackInvalidateD_eq]

/-- Hit_Write_Back of the data cache on a hit (R450). -/
theorem State.hitWriteBackD_hit (h : (s.dLine (dIndex va)).hit pa = true) : s.hitWriteBackD va pa =
    .ok () ((s.writeBackDirty (dIndex va)).setDLine (dIndex va) { s.dLine (dIndex va) with w := false }) := by
  rw [State.hitWriteBackD, if_pos h]
  dsimp only
  rw [s.writeBackDirty_dLine]

theorem DLine.dirty_eq {l : DLine} (hv : l.v = true) (hw : l.w = true) (ptag : BitVec 22) :
    { l with ptag := ptag, v := true, w := true } = { l with ptag := ptag } := by
  cases l
  cases hv
  cases hw
  rfl

/-! ### The posted write of a line -/

/-- `p` is `s` once 16 bytes have been stored at `home` by a posted write (R162). -/
structure State.PostsLine (s p : State) (home : Nat) (data : BitVec 128) : Prop where
  evolves : s.Evolves p
  icache : p.icache = s.icache
  dcache : p.dcache = s.dcache
  read : p.mem.read home 16 = data.toNat
  outside : ∀ c, c < home ∨ home + 16 ≤ c → p.mem.byte c = s.mem.byte c
  posted : p.posted = s.room.posted ++ [.memory (s.mem.cells home 16)]
  free : p.free = s.room.free
  only : p = { s.room with posted := p.posted, mem := p.mem }

theorem State.postMemory_postsLine (hc : s.canonical = true) (home : Nat) (data : BitVec 128) :
    s.PostsLine (s.postMemory home 16 data.toNat) home data where
  evolves := s.evolves_postMemory _ _ _
  icache := by rw [s.postMemory_eq_room, s.lands_room.icache]
  dcache := by rw [s.postMemory_eq_room, s.lands_room.dcache]
  read := by
    rw [s.postMemory_mem, Memory.read_write (s.canonical_iff.mp hc).1]
    exact Nat.mod_eq_of_lt data.isLt
  outside _ h := by rw [s.postMemory_mem, Memory.byte_write_outside _ _ _ _ h]
  posted := by rw [s.postMemory_eq_room, s.lands_room.mem]
  free := by rw [s.postMemory_eq_room]
  only := by rw [s.postMemory_eq_room]

/-- A dirty line whose home is SDRAM is stored there (R143, R144). -/
theorem State.writeBackDirty_postsLine (hc : s.canonical = true) {i : Nat} (hv : (s.dLine i).v = true) (hw : (s.dLine i).w = true)
    (h : s.regionAhead (foldAddress (writeBackAddress i (s.dLine i).ptag)) = .sdram) :
    s.PostsLine (s.writeBackDirty i) (foldAddress (writeBackAddress i (s.dLine i).ptag)) (s.dLine i).data := by
  rw [State.writeBackDirty_sdram hv hw h]
  exact State.postMemory_postsLine hc _ _

/-- Hit_Write_Back of the instruction cache on a hit, where the home of the line is SDRAM (R450). -/
theorem State.hitWriteBackI_postsLine (hc : s.canonical = true) (hit : (s.iLine (iIndex va)).hit pa = true)
    (h : s.regionAhead (foldAddress (writeBackAddress (iIndex va) (s.iLine (iIndex va)).ptag)) = .sdram) :
    ∃ p, s.hitWriteBackI va pa = .ok () p ∧
      s.PostsLine p (foldAddress (writeBackAddress (iIndex va) (s.iLine (iIndex va)).ptag)) (s.iLine (iIndex va)).data := by
  rw [State.hitWriteBackI, if_pos hit, State.busWriteLine_sdram h]
  exact ⟨_, rfl, State.postMemory_postsLine hc _ _⟩

/-- An instruction that stores a line and changes the caches has changed nothing else outside the core. -/
theorem State.PostsLine.sameBesidesCaches {p : State} {home : Nat} {data : BitVec 128} (h : s.PostsLine p home data)
    (ic : List (Nat × ILine)) (dc : List (Nat × DLine)) :
    SameBesidesCaches { s.room with posted := p.posted } (State.retire { p with icache := ic, dcache := dc }) := by
  have only := h.only
  generalize s.room = u at only ⊢
  obtain ⟨posted, mem, rfl⟩ : ∃ posted mem, p = { u with posted := posted, mem := mem } := ⟨_, _, only⟩
  rfl

/-! ### CACHE on the bus -/

/-- Settles O55: a write-back is one posted write of 16 bytes before the line changes, Fill is one refill of an instruction line. -/
theorem cacheOperationsOnTheBus : Obligations.CacheOperationsOnTheBus := by
  intro base offset s pa va hu hc ha ht d i dHome iHome src u w stores storesData instructionLine
  have run (op : BitVec 5) {r : Res Unit} (h : s.cacheOp op va pa = r) : exec (.cache op base offset) s = r.finish :=
    (exec_cache op hu ha ht).trans (congrArg Res.finish h)
  have completes {op : BitVec 5} {p : State} {home : Nat} {data : BitVec 128} (posts : s.PostsLine p home data)
      (ic : List (Nat × ILine)) (dc : List (Nat × DLine))
      (h : s.cacheOp op va pa = .ok () { p with icache := ic, dcache := dc }) :
      stores op home data (State.retire { p with icache := ic, dcache := dc }) :=
    ⟨run op h, posts.read, posts.outside, posts.posted, fun q => State.getReg_congr posts.evolves.gpr q, posts.evolves.hi,
      posts.evolves.lo, posts.free, State.retire_retired posts.evolves.pc posts.evolves.slot posts.evolves.cp0,
      posts.sameBesidesCaches ic dc⟩
  refine ⟨fun hv hw home => ?_, fun hit home => ?_, fun sdram => ?_, fun outside => ?_⟩
  · have posts : s.PostsLine (s.writeBackDirty (dIndex va)) dHome d.data := State.writeBackDirty_postsLine hc hv hw home
    have dataDone {op : BitVec 5} {l : DLine}
        (h : s.cacheOp op va pa = .ok () ((s.writeBackDirty (dIndex va)).setDLine (dIndex va) l)) : storesData op l :=
      ⟨_, completes posts _ _ h, State.dLine_setDLine_same (posts.evolves.canonical hc) _ l,
        fun j hj => (State.dLine_setDLine_ne _ hj l).trans (s.writeBackDirty_dLine _ j), posts.icache⟩
    refine ⟨dataDone (s.indexWriteBackInvalidateD_eq va), fun miss => ?_,
      fun hit => ⟨dataDone (State.hitWriteBackInvalidateD_hit hit), dataDone (State.hitWriteBackD_hit hit)⟩⟩
    rw [← DLine.dirty_eq hv hw]
    exact dataDone (State.createDirtyExclusive_miss miss)
  · obtain ⟨p, stored, posts⟩ := State.hitWriteBackI_postsLine hc hit home
    exact ⟨_, completes posts p.icache p.dcache stored, posts.icache, posts.dcache⟩
  · have lands : s.Lands w := s.lands_await .memory
    refine ⟨_, run 20 (State.refillI_sdram _ sdram), ⟨State.iLine_setILine_same (State.await_canonical hc _) _ _,
      fun j hj => (State.iLine_setILine_ne _ hj _).trans (s.await_iLine _ j), lands.dcache⟩,
      fun c => congrArg (Memory.byte · c) lands.mem, fun q => State.getReg_congr lands.evolves.gpr q, lands.evolves.hi,
      lands.evolves.lo, rfl, State.retire_retired lands.evolves.pc lands.evolves.slot lands.evolves.cp0, rfl⟩
  · have lands : s.Lands (w.nmiCause nsrMAERR) := (s.lands_await .memory).trans (State.lands_nmiCause _ _)
    exact ⟨_, run 20 (State.refillI_romOutside _ outside), ⟨State.iLine_setILine_same (lands.evolves.canonical hc) _ _,
      fun j hj => (State.iLine_setILine_ne _ hj _).trans (State.iLine_congr lands.icache j), lands.dcache⟩, rfl⟩

end Sys2Proof.Machine
end

section
/-! PROOFS. The moves from CP0, TLBP and ERET: what each reads, and the one field that each writes. -/
namespace Sys2Proof.Machine

variable {s : State}

/-! ### Moves from CP0 -/

theorem exec_mfc0 (h : s.cop0Usable = true) (rt rd : Reg) :
    exec (.mfc0 rt rd) s = s.writeResult rt (sext32 (low32 (s.readCp0 rd))) := by
  apply State.needCop0_of h

theorem exec_dmfc0 (h : s.cop0Usable = true) (h64 : s.ops64 = true) (rt rd : Reg) : exec (.dmfc0 rt rd) s =
    if cp0Is64 rd then s.writeResult rt (s.readCp0 rd) else s.draw.2.writeResult rt s.draw.1 := by
  refine .trans (b := s.need64 fun s =>
    if cp0Is64 rd then s.writeResult rt (s.readCp0 rd) else s.draw.2.writeResult rt s.draw.1) ?_ (State.need64_of h64 _)
  apply State.needCop0_of h

/-- MFC0 (R430). -/
theorem exec_mfc0_spec (h : s.cop0Usable = true) (rt rd : Reg) :
    ∃ t, exec (.mfc0 rt rd) s = .next t ∧ WritesOnly s t rt (((s.readCp0 rd).setWidth 32).signExtend 64) :=
  exec_writesOnly (exec_mfc0 h rt rd) rfl

/-- DMFC0 of a 64-bit register (R432). -/
theorem exec_dmfc0_spec (h : s.cop0Usable = true) (h64 : s.ops64 = true) (rt : Reg) {rd : Reg} (hd : cp0Is64 rd = true) :
    ∃ t, exec (.dmfc0 rt rd) s = .next t ∧ WritesOnly s t rt (s.readCp0 rd) :=
  exec_writesOnly ((exec_dmfc0 h h64 rt rd).trans (if_pos hd)) rfl

/-- DMFC0 of a 32-bit register takes a free value (R432, U39). -/
theorem exec_dmfc0_undefined (h : s.cop0Usable = true) (h64 : s.ops64 = true) (rt : Reg) {rd : Reg} (hd : cp0Is64 rd = false) :
    ∃ t x, exec (.dmfc0 rt rd) s = .next t ∧ WritesResults s t rt x s.hi s.lo :=
  ⟨_, _, (exec_dmfc0 h h64 rt rd).trans (if_neg (Bool.not_eq_true _ ▸ hd)),
    s.retire_writes rt s.draw.1 s.hi s.lo (s.free + 1)⟩

theorem setWidth_zext32 (v : Word) : (zext32 v).setWidth 32 = v := BitVec.setWidth_setWidth_of_le v (by decide)

/-- Settles O48: both moves write what `State.readCp0` answers, and its table is read number by number. -/
theorem movesFromCp0 : Obligations.MovesFromCp0 := by
  refine ⟨fun rt rd s hu => ⟨exec_mfc0_spec hu rt rd, fun h64 => exec_dmfc0_spec hu h64 rt,
    fun h64 => exec_dmfc0_undefined hu h64 rt⟩, ?_⟩
  intro rt s hu word dword
  have reads32 {n : Reg} {v : Word} (hr : (s.readCp0 n).setWidth 32 = v) (hn : cp0Is64 n = false) : word n v := by
    subst hr
    exact ⟨exec_mfc0_spec hu rt n, fun h64 => exec_dmfc0_undefined hu h64 rt hn⟩
  have reads64 {n : Reg} {v : Dword} (hr : s.readCp0 n = v) (hn : cp0Is64 n = true) : dword n v := by
    subst hr
    exact ⟨exec_mfc0_spec hu rt n, fun h64 => exec_dmfc0_spec hu h64 rt hn⟩
  have reads {n : Reg} {v : Word} (hr : s.readCp0 n = zext32 v) (hn : cp0Is64 n = false) : word n v :=
    reads32 (hr ▸ setWidth_zext32 v) hn
  have narrow (v : BitVec 5) : (v.zeroExtend 64).setWidth 32 = v.setWidth 32 := BitVec.setWidth_setWidth_of_le v (by decide)
  refine ⟨reads rfl rfl, reads32 (narrow _) rfl, reads64 rfl rfl, reads64 rfl rfl, reads64 rfl rfl, reads rfl rfl,
    reads32 (narrow _) rfl, reads64 rfl rfl, reads rfl rfl, reads64 rfl rfl, reads rfl rfl, reads rfl rfl, reads rfl rfl,
    reads64 rfl rfl, reads rfl rfl, reads rfl rfl, reads rfl rfl, reads rfl rfl, reads64 rfl rfl, reads rfl rfl, reads rfl rfl,
    reads64 rfl rfl, fun n hn => ?_⟩
  fin_cases hn
  all_goals exact reads rfl rfl

/-! ### TLBP -/

theorem exec_tlbp (h : s.cop0Usable = true) : exec .tlbp s = .next s.probeResult.retire := by
  apply State.needCop0_of h

/-- TLBP with one match (R435). -/
theorem State.probeResult_one {i : Fin 32} (h : s.tlbHits s.cp0.entryHi = [i]) :
    s.probeResult = { s with cp0 := { s.cp0 with index := BitVec.ofNat 32 i } } := by
  rw [State.probeResult, h]

/-- TLBP without a match: the low bits of Index are free (R435, U40). -/
theorem State.probeResult_none (h : s.tlbHits s.cp0.entryHi = []) : s.probeResult =
    { s.draw.2 with cp0 := { s.cp0 with index := 0x8000_0000 ||| (low32 s.draw.1 &&& 0x1F) } } := by
  rw [State.probeResult, h]
  rfl

/-- Settles O51: the list of the matching entries has one element or is empty. -/
theorem tlbProbe : Obligations.TlbProbe := by
  intro s hu hs
  refine ⟨fun i hi others => ?_, fun h => ?_⟩
  · have run := exec_tlbp hu
    rw [State.probeResult_one (State.tlbHits_one hs hi others)] at run
    exact ⟨_, run, rfl, fun _ => rfl, fun _ => rfl, rfl, rfl⟩
  · have run := exec_tlbp hu
    rw [State.probeResult_none (State.tlbHits_none hs h)] at run
    have missBit (x : Word) : (0x8000_0000 ||| (x &&& 0x1F)).getLsbD 31 = true := by simp
    exact ⟨_, run, missBit _, rfl, fun _ => rfl, fun _ => rfl, rfl, rfl⟩

/-! ### ERET -/

section
variable {w : Nat}

/-- Clearing a bit, as a mask. -/
theorem setBit_false (v : BitVec w) (i : Nat) : setBit v i false = v &&& ~~~(BitVec.twoPow w i) := by
  simp [setBit, merge]

/-- A bit that was clear, set and cleared. -/
theorem or_twoPow_and_not {v : BitVec w} {i : Nat} (h : v.getLsbD i = false) :
    (v ||| BitVec.twoPow w i) &&& ~~~(BitVec.twoPow w i) = v := by
  apply BitVec.eq_of_getLsbD_eq
  intro j hj
  simp only [BitVec.getLsbD_and, BitVec.getLsbD_or, BitVec.getLsbD_not, BitVec.getLsbD_twoPow, hj, decide_true, Bool.true_and]
  by_cases hij : i = j
  · subst hij
    simp [h]
  · simp [hij]

end

theorem exec_eret (h : s.cop0Usable = true) (hs : s.slot = .normal) :
    exec .eret s = .next s.stepRandom.returnFromException := by
  change execEret s = _
  rw [execEret, State.needCop0_of h, hs]

theorem State.returnFromException_pc (s : State) :
    s.returnFromException.pc = if s.erl then s.cp0.errorEpc else s.cp0.epc := by
  unfold State.returnFromException; split <;> rfl

/-- The return clears ERL if it was 1, otherwise EXL (R439). -/
theorem State.returnFromException_cp0 (s : State) : s.returnFromException.cp0 =
    { s.cp0 with status := if s.erl then s.cp0.status &&& ~~~4 else s.cp0.status &&& ~~~2 } := by
  unfold State.returnFromException
  split
  · rw [setBit_false]; rfl
  · rw [setBit_false]; rfl

theorem State.returnFromException_sameOutsideCore (s : State) : SameOutsideCore s s.returnFromException := by
  unfold State.returnFromException; split <;> rfl

theorem State.takeException_erl (s : State) (e : Exc) : (s.takeException e).erl = s.erl := by
  rw [State.erl, State.takeException_status, BitVec.getLsbD_or]
  simp [State.erl]

theorem State.mode_congr {s t : State} (h : t.cp0.status = s.cp0.status) : t.mode = s.mode := by
  unfold State.mode State.exl State.erl State.ksu; rw [h]

/-- Settles O52: the return's registers, and what exception entry has put into them. -/
theorem returnFromException : Obligations.ReturnFromException := by
  refine ⟨fun s hu hs => ?_, fun s e exl erl slot => ?_⟩
  · refine ⟨_, exec_eret hu hs, by simp [hs], s.stepRandom.returnFromException_pc, s.stepRandom.returnFromException_cp0,
      fun _ => by simp, by simp, by simp, fun _ => by simp, s.stepRandom.returnFromException_sameOutsideCore⟩
  · have hu : (s.takeException e).cop0Usable = true := by simp [State.cop0Usable]
    have returns : (s.takeException e).stepRandom.erl = false := (s.takeException_erl e).trans erl
    have status : (s.takeException e).stepRandom.returnFromException.cp0.status = s.cp0.status := by
      rw [State.returnFromException_cp0, returns]
      exact (congrArg (· &&& ~~~2) (s.takeException_status e)).trans (or_twoPow_and_not (i := 1) exl)
    refine ⟨_, exec_eret hu rfl, ?_, by simp, status, State.mode_congr status, fun _ => by simp, by simp, by simp,
      fun _ => by simp⟩
    rw [State.returnFromException_pc, returns]
    exact (s.takeException_epc e).trans (by simp [exl, State.inDelaySlot, slot])

end Sys2Proof.Machine
end

section
/-! PROOFS. The stopped core: what a step does in Standby, Suspend and Hibernate, and what ends the first two. -/
namespace Sys2Proof.Machine

/-- A stopped core executes nothing (R460–R463). -/
theorem step_stopped {s : State} (hr : s.syscon.resetRequest = false) (hp : s.power ≠ .fullspeed) : step s = .next s.settle := by
  have boundary : s.boundary = .next s := by simp [State.boundary, hr, hp]
  rw [step, boundary]
  rfl

/-! ### Up to the wake-up -/

/-- `s` after all that happens between two instructions but the wake-up. -/
def State.beforeWake (s : State) : State := s.drain.capture.takeInputs.samplePhint.passTime.capture

theorem State.settle_eq_wake (s : State) : s.settle = s.beforeWake.wake := rfl

theorem State.passTime_power (s : State) : s.passTime.power = s.power :=
  (congrArg State.power (s.countTime_only (1 + Config.stepCycles s.steps)) :)

/-- Count and the timer interrupt stand still in Hibernate (R462). -/
theorem State.passTime_cp0_of_hibernate {s : State} (h : s.power = .hibernate) : s.passTime.cp0 = s.cp0 := by
  have still : s.countTime (1 + Config.stepCycles s.steps) = s := if_pos h
  exact (congrArg State.cp0 still :)

/-- The time that passes finds the power mode and the CP0 registers that the step has left. -/
theorem State.beforePassTime (s : State) : s.drain.capture.takeInputs.samplePhint.power = s.power ∧
    s.drain.capture.takeInputs.samplePhint.cp0 = s.cp0 := by
  have lands := (s.lands_drain.trans (State.lands_capture _)).evolves
  have inputs := s.drain.capture.evolves_takeInputs.trans s.drain.capture.takeInputs.lands_samplePhint.evolves
  exact ⟨inputs.power.trans lands.power, inputs.cp0.trans lands.cp0⟩

theorem State.beforeWake_power (s : State) : s.beforeWake.power = s.power := by
  rw [State.beforeWake, (State.lands_capture _).evolves.power, State.passTime_power, s.beforePassTime.1]

theorem State.beforeWake_cp0_of_hibernate {s : State} (h : s.power = .hibernate) : s.beforeWake.cp0 = s.cp0 := by
  obtain ⟨power, cp0⟩ := s.beforePassTime
  rw [State.beforeWake, (State.lands_capture _).evolves.cp0, State.passTime_cp0_of_hibernate (power.trans h), cp0]

/-! ### Wake-up -/

theorem and_ne_zero_iff {w : Nat} (v m : BitVec w) : v &&& m ≠ 0 ↔ ∃ n, m.getLsbD n = true ∧ v.getLsbD n = true := by
  constructor
  · intro h
    by_contra none
    refine h (BitVec.eq_of_getLsbD_eq fun n _ => ?_)
    rw [BitVec.getLsbD_and, BitVec.ofNat_eq_ofNat, BitVec.getLsbD_zero, Bool.and_eq_false_iff]
    by_contra both
    rw [not_or, Bool.not_eq_false, Bool.not_eq_false] at both
    exact none ⟨n, both.symm⟩
  · rintro ⟨n, hm, hv⟩ zero
    have := congrArg (·.getLsbD n) zero
    simp [hm, hv] at this

/-- What wakes the core: an NMI, or an interrupt line or the timer interrupt in bits 15:10 of Cause, masked or not (R463, D38). -/
def State.wakes (s : State) : Prop := s.nmiPending = true ∨ ∃ n, 10 ≤ n ∧ n < 16 ∧ s.causeNow.getLsbD n = true

theorem State.wakes_iff (s : State) : s.wakes ↔ s.nmiPending = true ∨ (s.causeNow &&& 0xFC00) ≠ 0 := by
  have mask (n : Nat) : (0xFC00 : Word).getLsbD n = true ↔ 10 ≤ n ∧ n < 16 := by
    by_cases hn : n < 32
    · have all : ∀ n : Fin 32, (0xFC00 : Word).getLsbD n = true ↔ 10 ≤ n.val ∧ n.val < 16 := by decide
      exact all ⟨n, hn⟩
    · rw [BitVec.getLsbD_of_ge _ _ (by omega)]
      simp only [Bool.false_eq_true, false_iff]
      omega
  simp only [State.wakes, and_ne_zero_iff, mask, and_assoc]

theorem State.wake_of_hibernate {s : State} (h : s.power = .hibernate) : s.wake = s := by
  rw [State.wake, if_neg (by simp [h])]

theorem State.wake_of_wakes {s : State} (hf : s.power ≠ .fullspeed) (hh : s.power ≠ .hibernate) (h : s.wakes) :
    s.wake = { s with power := .fullspeed } := by
  have stopped : s.power = .standby ∨ s.power = .suspend := by
    cases hp : s.power <;> simp_all
  exact if_pos ⟨stopped, s.wakes_iff.mp h⟩

theorem State.wake_of_not_wakes {s : State} (h : ¬ s.wakes) : s.wake = s :=
  if_neg fun c => h (s.wakes_iff.mpr c.2)

/-- The wake-up changes nothing that decides about it. -/
theorem State.wakes_wake (s : State) : s.wake.wakes ↔ s.wakes := by
  rw [s.wake_power_only]
  rfl

/-- Settles O15: a step of a stopped core is what happens between instructions, and its last part is the wake-up. -/
theorem stoppedCoreExecutesNothing : Obligations.StoppedCoreExecutesNothing := by
  intro s hr hp
  obtain ⟨gpr, hi, lo, pc, slot, -, -, cp0, -⟩ := s.settled_settle
  refine ⟨s.settle, step_stopped hr hp, gpr, hi, lo, pc, slot, cp0, fun hibernate => ?_,
    fun hh => ⟨fun h => ?_, fun h => ?_⟩⟩
  · have still : s.settle = s.beforeWake := State.wake_of_hibernate (s.beforeWake_power.trans hibernate)
    rw [still]
    exact ⟨s.beforeWake_power.trans hibernate, State.beforeWake_cp0_of_hibernate hibernate⟩
  · have awake : s.settle = { s.beforeWake with power := .fullspeed } :=
      State.wake_of_wakes (s.beforeWake_power ▸ hp) (s.beforeWake_power ▸ hh) (s.beforeWake.wakes_wake.mp h)
    rw [awake]
  · have asleep : s.settle = s.beforeWake := State.wake_of_not_wakes fun k => h (s.beforeWake.wakes_wake.mpr k)
    rw [asleep, s.beforeWake_power]

end Sys2Proof.Machine
end

section
/-! PROOFS. Read-clear registers: what a load of each returns and leaves behind. -/
namespace Sys2Proof.Machine

/-! ### A word load of a block is a load of its register -/

theorem Atm.read_word {off : Nat} (h : 0xF000 ≤ off) (a : Atm) : a.read off Lanes.word = a.readReg (off - 0xF000) := by
  rw [Atm.read, if_neg (by omega), if_neg (by omega), DevReply.sized_word]

theorem Eth.read_word (e : Eth) (off : Nat) : e.read off Lanes.word = e.readReg off := (e.readReg off).sized_word

theorem pciSizeOk_word (off : Nat) : pciSizeOk off Lanes.word = true := by
  unfold pciSizeOk
  split <;> rfl

theorem Pci.read_word (nic : Bool) (p : Pci) (off : Nat) : p.read nic off Lanes.word = p.readReg nic off Lanes.word := by
  rw [Pci.read, pciSizeOk_word, DevReply.sized_true]

/-! ### The read-clear registers -/

/-- S_ISR is cleared in the bytes read (R521, D21). -/
theorem Syscon.read_isr (y : Syscon) (clksl endcen : Bool) (be : Lanes) :
    y.read clksl endcen 0x008 be = { dev := { y with isr := y.isr &&& ~~~be.mask }, data := some y.isr } := rfl

/-- S_NSR is cleared in the bytes read (R531, D21). -/
theorem Syscon.read_nsr (y : Syscon) (clksl endcen : Bool) (be : Lanes) :
    y.read clksl endcen 0x010 be = { dev := { y with nsr := y.nsr &&& ~~~be.mask }, data := some y.nsr } := rfl

/-- A_GSR is cleared whole (R607). -/
theorem Atm.read_gsr (a : Atm) : a.read 0xF004 Lanes.word = { dev := { a with gsr := 0 }, data := some a.gsr } :=
  a.read_word (by decide)

/-- En_ISR is cleared whole (R736). -/
theorem Eth.read_isr (e : Eth) : e.read 0x238 Lanes.word = { dev := { e with isr := 0 }, data := some e.isr } :=
  e.read_word 0x238

/-- P_IGSR returns PINTR as it stands, and is cleared whole (R910). -/
theorem Pci.read_igsr (nic : Bool) (p : Pci) :
    p.read nic 0x1C Lanes.word = { dev := { p with igsr := 0 }, data := some (p.igsrNow nic) } :=
  p.read_word nic 0x1C

/-- Settles O58, register by register. -/
theorem readClearRegisters : Obligations.ReadClearRegisters := by
  intro y a e p clksl endcen nic be
  have eth := e.read_isr
  have pci := p.read_igsr nic
  exact ⟨y.read_isr clksl endcen be, y.read_nsr clksl endcen be, a.read_gsr, congrArg DevReply.data eth,
    congrArg (·.dev.isr) eth, congrArg DevReply.data pci, congrArg (·.dev.igsr) pci⟩

end Sys2Proof.Machine
end

section
/-! PROOFS. Precise exceptions, and what leaves User mode: every instruction raises its exception before it has written a register,
or completes without a change of the mode, or is one that CP0 must be usable for. -/
namespace Sys2Proof.Machine

variable {s t u : State}

/-! ### How an instruction ends -/

/-- An instruction has ended from `s` in one of three ways: its exception has been taken, after what its references have done
outside the registers; it has completed and changed no CP0 register but Random, and no TLB entry; or CP0 was usable, and no
general register, HI or LO has changed. -/
inductive State.Executes (s : State) : State → Prop
  | raised {u : State} (h : s.Evolves u) (e : Exc) : s.Executes (u.takeException e)
  | completed {t : State} (cp0 : t.cp0 = { s.cp0 with random := s.cp0.nextRandom }) (tlb : t.tlb = s.tlb) : s.Executes t
  | privileged {t : State} (usable : s.cop0Usable = true) (gpr : t.gpr = s.gpr) (hi : t.hi = s.hi) (lo : t.lo = s.lo) :
      s.Executes t

/-! ### The operations that instructions end in -/

theorem State.retire_executes (cp0 : t.cp0 = s.cp0) (tlb : t.tlb = s.tlb) : OutHolds s.Executes (.next t.retire) :=
  .next (.completed (by rw [State.retire_cp0, cp0]) tlb)

theorem State.jump_executes (cp0 : t.cp0 = s.cp0) (tlb : t.tlb = s.tlb) (taken likely : Bool) (target : Dword) :
    OutHolds s.Executes (t.jump taken likely target) := by
  cases slot : t.slot with
  | delay x => exact .of_fault (State.jump_slot slot taken likely target)
  | normal =>
    rw [State.jump_eq slot]
    exact .next (.completed (by rw [State.stepRandom_cp0, cp0]) tlb)

/-- A load writes its register only when the reference has been answered. -/
theorem State.loadInto_executes {r : Res Dword} (h : r.Holds s.Evolves) (rt : Reg) (f : Dword → Dword) :
    OutHolds s.Executes (State.loadInto rt f r) := by
  cases h with
  | ok h => exact State.retire_executes (by simp [h.cp0]) (by simp [h.tlb])
  | raise h => exact .next (.raised h _)
  | fault => exact .fault _

theorem Res.Holds.finish_executes {r : Res Unit} (h : r.Holds s.Evolves) : OutHolds s.Executes r.finish := by
  cases h with
  | ok h => exact State.retire_executes h.cp0 h.tlb
  | raise h => exact .next (.raised h _)
  | fault => exact .fault _

variable (s)

theorem State.trap_executes (e : Exc) : OutHolds s.Executes (s.trap e) := .next (.raised (.refl s) e)

theorem State.need64_executes {k : State → Out} (h : OutHolds s.Executes (k s)) : OutHolds s.Executes (s.need64 k) := by
  unfold State.need64
  split
  · exact h
  · exact s.trap_executes _

theorem State.needCop0_executes {k : State → Out} (h : s.cop0Usable = true → OutHolds s.Executes (k s)) :
    OutHolds s.Executes (s.needCop0 k) := by
  unfold State.needCop0
  split
  next usable => exact h usable
  next => exact s.trap_executes _

theorem State.writeResult_executes (r : Reg) (v : Dword) : OutHolds s.Executes (s.writeResult r v) :=
  State.retire_executes (s.setReg_cp0 r v) (s.setReg_tlb r v)

theorem State.writeUnlessOverflow_executes (c : Bool) (r : Reg) (v : Dword) :
    OutHolds s.Executes (s.writeUnlessOverflow c r v) := by
  unfold State.writeUnlessOverflow
  split
  · exact s.trap_executes _
  · exact s.writeResult_executes r v

theorem State.writeHiLo_executes (hi lo : Dword) : OutHolds s.Executes (s.writeHiLo hi lo) := State.retire_executes rfl rfl

theorem State.divideWords_executes (n d : Int) : OutHolds s.Executes (s.divideWords n d) := by
  unfold State.divideWords
  split
  · exact State.retire_executes rfl rfl
  · exact s.writeHiLo_executes _ _

theorem State.divideDwords_executes (n d : Int) : OutHolds s.Executes (s.divideDwords n d) := by
  unfold State.divideDwords
  split
  · exact State.retire_executes rfl rfl
  · exact s.writeHiLo_executes _ _

theorem State.macc_executes (sat hi us : Bool) (rd rs rt : Reg) : OutHolds s.Executes (s.macc sat hi us rd rs rt) :=
  State.retire_executes (State.setReg_cp0 _ rd _) (State.setReg_tlb _ rd _)

theorem State.dmacc_executes (sat hi us : Bool) (rd rs rt : Reg) : OutHolds s.Executes (s.dmacc sat hi us rd rs rt) :=
  s.need64_executes (State.retire_executes (State.setReg_cp0 _ rd _) (State.setReg_tlb _ rd _))

theorem State.trapIf_executes (c : Bool) : OutHolds s.Executes (s.trapIf c) := by
  unfold State.trapIf
  split
  · exact s.trap_executes _
  · exact State.retire_executes rfl rfl

theorem execJalr_executes (rd rs : Reg) : OutHolds s.Executes (execJalr rd rs s) := by
  unfold execJalr
  split
  · exact State.jump_executes (t := s.draw.2.draw.2.setReg rd s.draw.1) (by simp) (by simp) _ _ _
  · exact State.jump_executes (s.setReg_cp0 rd _) (s.setReg_tlb rd _) _ _ _

/-! ### Coprocessor 0 -/

theorem execDmfc0_executes (rt rd : Reg) : OutHolds s.Executes (execDmfc0 rt rd s) := by
  refine s.needCop0_executes fun _ => s.need64_executes ?_
  split
  · exact s.writeResult_executes _ _
  · exact State.retire_executes (State.setReg_cp0 _ rt _) (State.setReg_tlb _ rt _)

theorem State.probeResult_registers : s.probeResult.gpr = s.gpr ∧ s.probeResult.hi = s.hi ∧ s.probeResult.lo = s.lo := by
  unfold State.probeResult
  split
  · exact ⟨rfl, rfl, rfl⟩
  · dsimp only
    split <;> exact ⟨rfl, rfl, rfl⟩

section
variable {s : State} (usable : s.cop0Usable = true)
include usable

theorem State.writeCp0_executes (n : Reg) (v : Dword) : OutHolds s.Executes (s.writeCp0 n v) := by
  unfold State.writeCp0
  split <;> exact .next (.privileged usable rfl rfl rfl)

theorem State.writeTlb_executes (i : BitVec 5) : OutHolds s.Executes (s.writeTlb i) := by
  unfold State.writeTlb
  split
  · exact .next (.privileged usable rfl rfl rfl)
  · exact .fault _

theorem State.stopPipeline_executes (m : PowerMode) : OutHolds s.Executes (s.stopPipeline m) :=
  have waits := s.lands_awaitSysAd.evolves
  .next (.privileged usable waits.gpr waits.hi waits.lo)

/-- CACHE raises its exceptions before it has changed TagLo, the one register that one of its operations writes. -/
theorem State.cacheEffect_executes (op : BitVec 5) (va : Dword) : OutHolds s.Executes (s.cacheEffect op va).finish := by
  cases tag : loadsTag op with
  | false => exact (s.cacheEffect_evolves tag va).finish_executes
  | true =>
    unfold State.cacheEffect
    split
    · exact s.trap_executes _
    · rcases s.translate_cases false va with ⟨t, answered⟩ | ⟨e, b, raised⟩
      · rw [answered, Res.bind_ok]
        split
        · rw [s.cacheOp_loadTag tag]
          exact .next (.privileged usable rfl rfl rfl)
        · exact State.retire_executes rfl rfl
      · rw [raised]
        exact .next (.raised (s.evolves_tlbShutdown b) e)

end

theorem execEret_executes : OutHolds s.Executes (execEret s) := by
  refine s.needCop0_executes fun usable => ?_
  split
  · exact .fault _
  · exact .next (.privileged usable (by simp) (by simp) (by simp))

/-! ### Every instruction -/

/-- How every instruction ends, by the operation that its meaning ends in. -/
theorem exec_executes (i : Instr) : OutHolds s.Executes (exec i s) := by
  have jump := State.jump_executes (s := s) rfl rfl
  have linked := State.jump_executes (s.setReg_cp0 31 s.linkAddress) (s.setReg_tlb 31 s.linkAddress)
  cases i with
  | lb | lbu | lh | lhu | lw | lwl | lwr => exact State.loadInto_executes (s.load_evolves _ _ _ _) _ _
  | lwu | ld | ldl | ldr =>
    apply s.need64_executes
    exact State.loadInto_executes (s.load_evolves _ _ _ _) _ _
  | sb | sh | sw | swl | swr => exact (s.store_evolves _ _ _ _ _).finish_executes
  | sd | sdl | sdr =>
    apply s.need64_executes
    exact (s.store_evolves _ _ _ _ _).finish_executes
  | addi | add | sub => exact s.writeUnlessOverflow_executes _ _ _
  | daddi | dadd | dsub =>
    apply s.need64_executes
    exact s.writeUnlessOverflow_executes _ _ _
  | addiu | slti | sltiu | andi | ori | xori | lui | addu | subu | and | or | xor | nor | slt | sltu =>
    exact s.writeResult_executes _ _
  | sll | srl | sra | sllv | srlv | srav | mfhi | mflo => exact s.writeResult_executes _ _
  | daddiu | daddu | dsubu | dsll | dsrl | dsra | dsllv | dsrlv | dsrav | dsll32 | dsrl32 | dsra32 =>
    apply s.need64_executes
    exact s.writeResult_executes _ _
  | mult | multu | mthi | mtlo => exact s.writeHiLo_executes _ _
  | dmult | dmultu =>
    apply s.need64_executes
    exact s.writeHiLo_executes _ _
  | div | divu => exact s.divideWords_executes _ _
  | ddiv | ddivu =>
    apply s.need64_executes
    exact s.divideDwords_executes _ _
  | macc | maccu | macchi | macchiu | maccs | maccus | macchis | macchius => exact s.macc_executes _ _ _ _ _ _
  | dmacc | dmaccu | dmacchi | dmacchiu | dmaccs | dmaccus | dmacchis | dmacchius => exact s.dmacc_executes _ _ _ _ _ _
  | j | jr | beq | bne | blez | bgtz | beql | bnel | blezl | bgtzl | bltz | bgez | bltzl | bgezl => exact jump _ _ _
  | jal | bltzal | bgezal | bltzall | bgezall => exact linked _ _ _
  | jalr rd rs => exact execJalr_executes s rd rs
  | sync => exact State.retire_executes rfl rfl
  | tge | tgeu | tlt | tltu | teq | tne | tgei | tgeiu | tlti | tltiu | teqi | tnei => exact s.trapIf_executes _
  | bc0f | bc0t | bc0fl | bc0tl =>
    apply s.needCop0_executes
    exact fun _ => jump _ _ _
  | mfc0 =>
    apply s.needCop0_executes
    exact fun _ => s.writeResult_executes _ _
  | dmfc0 rt rd => exact execDmfc0_executes s rt rd
  | mtc0 =>
    apply s.needCop0_executes
    exact fun usable => State.writeCp0_executes usable _ _
  | dmtc0 =>
    apply s.needCop0_executes
    exact fun usable => s.need64_executes (State.writeCp0_executes usable _ _)
  | tlbr =>
    apply s.needCop0_executes
    exact fun usable => .next (.privileged usable rfl rfl rfl)
  | tlbwi | tlbwr =>
    apply s.needCop0_executes
    exact fun usable => State.writeTlb_executes usable _
  | tlbp =>
    obtain ⟨gpr, hi, lo⟩ := s.probeResult_registers
    apply s.needCop0_executes
    exact fun usable => .next (.privileged usable gpr hi lo)
  | eret => exact execEret_executes s
  | standby | suspend | hibernate =>
    apply s.needCop0_executes
    exact fun usable => State.stopPipeline_executes usable _
  | cache =>
    apply s.needCop0_executes
    exact fun usable => State.cacheEffect_executes usable _ _
  | jalx | syscall | brk | ll | lld | sc | scd => exact s.trap_executes _
  | cop1 | lwc1 | ldc1 | swc1 | sdc1 | cop2 | lwc2 | ldc2 | swc2 | sdc2 => exact s.trap_executes _

variable {s}

/-! ### Precise exceptions -/

theorem State.exl_congr (h : t.cp0.status = s.cp0.status) : t.exl = s.exl := congrArg (·.getLsbD 1) h

/-- Settles O16: an exception is taken from a state with the registers of `s`, an instruction that completes without CP0 leaves
EXL at 0, and one of CP0 that may write Status writes none of these registers. -/
theorem exceptionsArePrecise : Obligations.ExceptionsArePrecise := by
  intro i s t ht before after
  cases exec_executes s i t ht with
  | raised h e => exact ⟨fun q => State.getReg_congr h.gpr q, h.hi, h.lo⟩
  | completed cp0 tlb =>
    have kept : t.exl = s.exl := State.exl_congr (by rw [cp0])
    rw [kept, before] at after
    cases after
  | privileged usable gpr hi lo => exact ⟨fun q => State.getReg_congr gpr q, hi, lo⟩

/-! ### User mode -/

theorem State.vectorBase_congr (h : t.cp0.status = s.cp0.status) : t.vectorBase = s.vectorBase := by
  unfold State.vectorBase State.bev
  rw [h]

/-- The vector offsets of R1126. -/
theorem State.vectorOffset_cases (s : State) (e : Exc) :
    s.vectorOffset e = 0 ∨ s.vectorOffset e = 0x080 ∨ s.vectorOffset e = 0x180 := by
  unfold State.vectorOffset
  split
  · split
    · exact .inr (.inl rfl)
    · exact .inl rfl
  · exact .inr (.inr rfl)

/-- Settles O17: in User mode with CU0 = 0 CP0 is not usable, so that an instruction completes with the mode as it was or takes
its exception. -/
theorem userModeLeavesByExceptionOnly : Obligations.UserModeLeavesByExceptionOnly := by
  intro i s t ht user cu0
  cases exec_executes s i t ht with
  | completed cp0 tlb => exact .inl ⟨(State.mode_congr (by rw [cp0])).trans user, cp0, tlb⟩
  | privileged usable =>
    have unusable : s.cop0Usable = false := State.cop0Usable_false (by rw [user]; decide) cu0
    rw [unusable] at usable
    cases usable
  | @raised u h e =>
    have base : u.vectorBase = s.vectorBase := State.vectorBase_congr (by rw [h.cp0])
    refine .inr ⟨u.takeException_exl e, u.takeException_mode e, h.tlb, ?_⟩
    rw [State.takeException_pc, base]
    rcases u.vectorOffset_cases e with offset | offset | offset <;> rw [offset]
    · exact .inl (BitVec.add_zero _)
    · exact .inr (.inl rfl)
    · exact .inr (.inr rfl)

end Sys2Proof.Machine
end

section
/-! PROOFS. The boundary between instructions: the vectors, the interrupt enable condition, and what a step does for a cold reset,
an NMI, an interrupt and a fetched word. -/
namespace Sys2Proof.Machine

variable {s u : State} {t : Target} {w : Word}

/-! ### Vectors -/

theorem State.vectorOffset_refill (s : State) (store : Bool) (va : Dword) : s.vectorOffset (.tlbRefill store va) =
    if s.exl then 0x180 else if s.is64bitMode then 0x080 else 0x000 := by
  unfold State.vectorOffset
  cases s.exl <;> rfl

theorem State.vectorOffset_general (s : State) {e : Exc} (h : e.isRefill = false) : s.vectorOffset e = 0x180 := by
  simp [State.vectorOffset, h]

/-- Settles O11: TLB Refill has its own offset, every other exception the general one. -/
theorem exceptionVector : Obligations.ExceptionVector := by
  intro s e
  refine ⟨rfl, ?_⟩
  rw [State.takeException_pc]
  refine congrArg (s.vectorBase + ·) ?_
  cases e with
  | tlbRefill store va => exact s.vectorOffset_refill store va
  | _ => exact s.vectorOffset_general rfl

/-! ### Interrupts -/

/-- The bits of IP in Cause, and of IM in Status (R45, R47). -/
theorem getLsbD_interruptMask (n : Nat) : (0xFF00 : Word).getLsbD n = true ↔ 8 ≤ n ∧ n < 16 := by
  by_cases hn : n < 32
  · have all : ∀ n : Fin 32, (0xFF00 : Word).getLsbD n = true ↔ 8 ≤ n.val ∧ n.val < 16 := by decide
    exact all ⟨n, hn⟩
  · rw [BitVec.getLsbD_of_ge _ _ (by omega)]
    simp only [Bool.false_eq_true, false_iff]
    omega

/-- The interrupt enable condition (R1161). -/
theorem State.interruptEnabled_iff (s : State) : s.interruptEnabled = true ↔ s.ie = true ∧ s.exl = false ∧ s.erl = false ∧
    ∃ n, 8 ≤ n ∧ n < 16 ∧ s.causeNow.getLsbD n = true ∧ s.cp0.status.getLsbD n = true := by
  simp only [State.interruptEnabled, Bool.and_eq_true, Bool.not_eq_true', bne_iff_ne, and_ne_zero_iff, getLsbD_interruptMask,
    BitVec.getLsbD_and, and_assoc]

/-- With no event at the boundary and a legal fetch address, an enabled interrupt is taken before the fetch (R118, R1117). -/
theorem AtInstruction.step_interrupt (h : AtInstruction s) (ht : s.fetchTarget = .ok t s) (hi : s.interruptEnabled = true) :
    step s = .next (s.takeException .int).settle := by
  have run : s.runInstruction = s.trap .int := by
    simp [State.runInstruction, h.mode, h.config, ht, State.fetchAndRun, hi]
  rw [h.step_eq, run]
  rfl

/-- Settles O14. -/
theorem interruptIsTaken : Obligations.InterruptIsTaken := fun s _ =>
  ⟨s.interruptEnabled_iff, fun reset power nmi watch mode config =>
    AtInstruction.step_interrupt ⟨reset, power, nmi, .inl watch, mode, config⟩⟩

/-! ### The fetched word -/

/-- With no event at the boundary, a legal fetch address and no interrupt enabled, the step runs the word that is fetched (R1117). -/
theorem AtInstruction.step_fetchWord (h : AtInstruction s) (ht : s.fetchTarget = .ok t s) (hi : s.interruptEnabled = false)
    (hw : s.fetchWord t = .ok w u) : step s = settleOut (u.runWord w) := by
  have run : s.runInstruction = u.runWord w := by
    simp [State.runInstruction, h.mode, h.config, ht, State.fetchAndRun, hi, hw]
  rw [h.step_eq, run]

theorem State.runWord_instruction {i : Instr} (h : decode w = .ok i) : u.runWord w = exec i u := by
  rw [State.runWord, h]

theorem State.runWord_reserved (h : decode w = .error .reserved) : u.runWord w = u.trap .ri := by
  rw [State.runWord, h]

/-- A reserved word of coprocessor 0: the usability test comes first (R187, R188, D26). -/
theorem State.runWord_reservedCop0 (h : decode w = .error .reservedCop0) : u.runWord w = u.needCop0 fun s => s.trap .ri := by
  rw [State.runWord, h]

/-- Settles O1, by what the word decodes to. -/
theorem stepRunsDecodedInstruction : Obligations.StepRunsDecodedInstruction := by
  intro s u t w reset power nmi watch mode config target interrupt word
  have runs : step s = settleOut (u.runWord w) :=
    AtInstruction.step_fetchWord ⟨reset, power, nmi, watch, mode, config⟩ target interrupt word
  refine ⟨fun i h => ?_, fun h => ?_, fun h usable => ?_, fun h unusable => ?_⟩
  · rw [runs, State.runWord_instruction h]
  · rw [runs, State.runWord_reserved h]; rfl
  · rw [runs, State.runWord_reservedCop0 h, State.needCop0_of usable]; rfl
  · rw [runs, State.runWord_reservedCop0 h, State.needCop0_not unusable]; rfl

/-! ### Cold reset and NMI -/

theorem step_coldReset (h : s.syscon.resetRequest = true) : step s = .next s.coldReset.settle := by
  have boundary : s.boundary = .next s.coldReset := if_pos h
  rw [step, boundary]
  rfl

/-- The fixed fields of Config as it reads, whatever EC the board sets (R51). -/
theorem State.configNow_fixed (h : s.cp0.config &&& 0x007F_FFF8 = 0) : s.configNow &&& 0x007F_FFF8 = 0x0002_58C0 := by
  have ec : s.board.configEc.zeroExtend 32 <<< 28 &&& (0x007F_FFF8 : Word) = 0 := field_and_eq_zero (by decide) _
  rw [State.configNow, BitVec.and_or_distrib_right, BitVec.and_or_distrib_right, ec, h]
  rfl

/-- Settles O9: the registers after a cold reset are those of the state after reset but ErrorEPC, and no memory is touched. -/
theorem coldResetRestartsTheCore : Obligations.ColdResetRestartsTheCore := by
  intro s request
  have status : s.coldReset.cp0.status = State.reset.cp0.status := rfl
  have config : s.coldReset.cp0.config = 0 := rfl
  obtain ⟨-, -, bev, erl, sr, mode, -⟩ := resetState
  refine ⟨s.coldReset, step_coldReset request, rfl, rfl, rfl, bev, erl, sr, (State.mode_congr status).trans mode, rfl, rfl,
    State.configNow_fixed (by rw [config]; rfl), rfl, rfl, rfl, rfl, rfl, fun _ => rfl, rfl, rfl, rfl⟩

theorem step_nmi (reset : s.syscon.resetRequest = false) (power : s.power = .fullspeed) (nmi : s.nmiPending = true) :
    step s = .next s.takeNmi.settle := by
  have boundary : s.boundary = .next s.takeNmi := by simp [State.boundary, reset, power, nmi]
  rw [step, boundary]
  rfl

/-- Settles O10: the step is `takeNmi`, which writes four fields of the state. -/
theorem nmiEntry : Obligations.NmiEntry := by
  intro s reset power nmi
  exact ⟨s.takeNmi, step_nmi reset power nmi, s.takeNmi_pc, s.takeNmi_slot, s.takeNmi_nmiPending, rfl, s.takeNmi_gpr,
    s.takeNmi_hi, s.takeNmi_lo, fun _ => rfl, s.takeNmi_tlb, s.takeNmi_icache, s.takeNmi_dcache, s.takeNmi_watchPending, rfl⟩

end Sys2Proof.Machine
end

section
/-! PROOFS. The device timers: a run of clocks is its single clocks. -/
namespace Sys2Proof.Machine

variable {n : Nat} {c r : Word}

/-- Up to the clock at which the counter is 0 it only counts down. -/
theorem timerCount_of_le (h : n ≤ c.toNat) (r : Word) : timerCount n c r = (c - BitVec.ofNat 32 n, false) := if_pos h

/-- Behind that clock the counter has been reloaded, and again every `r + 1` clocks. -/
theorem timerCount_of_gt (h : c.toNat < n) (r : Word) : timerCount n c r =
    (r - BitVec.ofNat 32 ((n - c.toNat - 1) % (r.toNat + 1)), true) := if_neg (Nat.not_le.mpr h)

/-- One clock decrements the counter or, at 0, reloads it and signals a time-out (R1014). -/
theorem timerCount_one (c r : Word) : timerCount 1 c r = if c = 0 then (r, true) else (c - 1, false) := by
  split
  next zero =>
    rw [zero, timerCount_of_gt (by decide)]
    simp
  next positive =>
    have : c.toNat ≠ 0 := fun e => positive (BitVec.eq_of_toNat_eq e)
    exact timerCount_of_le (by omega) r

theorem toNat_sub_ofNat (h : n ≤ c.toNat) : (c - BitVec.ofNat 32 n).toNat = c.toNat - n := by
  have := c.isLt
  bv_omega

theorem sub_ofNat_sub_ofNat (c : Word) (m n : Nat) : c - BitVec.ofNat 32 m - BitVec.ofNat 32 n = c - BitVec.ofNat 32 (m + n) := by
  rw [BitVec.ofNat_add, sub_sub]

/-- `n` clocks after `m` clocks are `m + n` clocks. Either part passes the counter's 0 or does not; if the first does, `k` of its clocks
have passed since the last reload. -/
theorem timerCount_add (m n : Nat) (c r : Word) : timerCount (m + n) c r =
    ((timerCount n (timerCount m c r).1 r).1, (timerCount m c r).2 || (timerCount n (timerCount m c r).1 r).2) := by
  by_cases first : m ≤ c.toNat
  · have rest : (c - BitVec.ofNat 32 m).toNat = c.toNat - m := toNat_sub_ofNat first
    rw [timerCount_of_le first]
    dsimp only
    by_cases second : m + n ≤ c.toNat
    · rw [timerCount_of_le second, timerCount_of_le (by omega), sub_ofNat_sub_ofNat]
      rfl
    · have left : m + n - c.toNat - 1 = n - (c.toNat - m) - 1 := by omega
      rw [timerCount_of_gt (Nat.lt_of_not_le second), timerCount_of_gt (by omega), rest, left]
      rfl
  · generalize elapsed : (m - c.toNat - 1) % (r.toNat + 1) = k
    have bound : k < r.toNat + 1 := elapsed ▸ Nat.mod_lt _ (Nat.succ_pos _)
    have rest : (r - BitVec.ofNat 32 k).toNat = r.toNat - k := toNat_sub_ofNat (Nat.le_of_lt_succ bound)
    have together : (m + n - c.toNat - 1) % (r.toNat + 1) = (k + n) % (r.toNat + 1) := by
      rw [← elapsed, Nat.mod_add_mod]
      congr 1
      omega
    rw [timerCount_of_gt (n := m) (by omega), timerCount_of_gt (n := m + n) (by omega), together, elapsed]
    dsimp only
    by_cases second : k + n ≤ r.toNat
    · rw [timerCount_of_le (by omega), sub_ofNat_sub_ofNat, Nat.mod_eq_of_lt (by omega)]
      rfl
    · have reloaded : (k + n) % (r.toNat + 1) = (n - (r.toNat - k) - 1) % (r.toNat + 1) := by
        rw [Nat.mod_eq_sub_mod (by omega)]
        congr 1
        omega
      rw [timerCount_of_gt (by omega), rest, reloaded]
      rfl

/-- Settles O57. -/
theorem timerCountsClockByClock : Obligations.TimerCountsClockByClock := fun m n c r =>
  ⟨timerCount_one c r, timerCount_add m n c r⟩

end Sys2Proof.Machine
end
